-- ==== Sys2Proof/Word.lean ====
section
/-! DEFINITION. The two word types of the block (00_scope.md R12, R13): a byte and a 32-bit register word.
Everything a rule computes with them stands in Machine/Units.lean. -/

namespace Sys2Proof

/-- A byte: 8 bits (R13). -/
abbrev Byte := BitVec 8

/-- A register word: "every framer register is 32 bits" (R12). -/
abbrev Word := BitVec 32

end Sys2Proof
end

