-- ==== Sys2Proof/Syntax.lean ====
section
/-! DEFINITION. Syntax: the sixteen commands of the opcode table (30_encoding.md R81), the registers of the block
(10_state.md R21), the host operations of R92, the assembler forms of R91, and the turns of the two agents. -/

namespace Sys2Proof

/-- The command set FRAMER-CMD v1, one constructor per row of spec/opcode_table.json. A command word carries no
operand: "Every operand comes from the operand registers through the latch ... never from the command word" (R80). -/
inductive Instr where
  | sys
  | cmdType
  | cmdModes
  | cmdSpeed
  | cmdSelect
  | cmdWrite
  | infoName
  | infoSpan
  | infoSymbol
  | infoFormat
  | data
  | csum
  | log2c
  | lcode
  | padsz
  | wpad
deriving DecidableEq, Repr

/-- Why a command word is no command (R83): both kinds complete with `EOP`. -/
inductive Reject where
  /-- `RSV` [31:5] is not zero. -/
  | rsvNonzero
  /-- `OP` [4:0] is one of 0x10 to 0x1F. -/
  | opReserved
deriving DecidableEq, Repr

/-- The eleven registers of the block (R21). -/
inductive Reg where
  | cmd
  | status
  | result
  | dest
  | src
  | len
  | argA
  | argB
  | word0
  | word1
  | flags
deriving DecidableEq, Repr

/-- The host's binary operators (R92: `+ − & | << >>`). -/
inductive HostBin where
  | add
  | sub
  | and
  | or
  | shl
  | shr
deriving DecidableEq, Repr

/-- The expressions of R92, over unbounded integers. A temporary is named by a number; `bits e hi lo` is the slice
`e[hi:lo]` of R13, which the programs use on a register's value. -/
inductive HostExpr where
  | lit (v : Int)
  | temp (t : Nat)
  | bits (e : HostExpr) (hi lo : Nat)
  | bin (op : HostBin) (a b : HostExpr)
deriving DecidableEq, Repr

/-- The conditions of `IF cond GOTO`: the comparisons the spec's programs use. -/
inductive HostCond where
  | eq (a b : HostExpr)
  | ne (a b : HostExpr)
  | lt (a b : HostExpr)
  | le (a b : HostExpr)
deriving DecidableEq, Repr

/-- The host operations of R92, "the only host actions a model needs". A register access names its offset in the
block and its width in bytes, so that the unsupported accesses of 20_memory.md R68 can be written down; R92's own
`W reg, v` and `R reg -> t` are the accesses of width 4 at a register's offset (`opW` and `opR` of
Machine/Assembler.lean). -/
inductive HostOp where
  | write (offset width : Nat) (v : HostExpr)
  | read (offset width : Nat) (t : Nat)
  | storeByte (a v : HostExpr)
  | loadByte (a : HostExpr) (t : Nat)
  | assign (t : Nat) (e : HostExpr)
  | label (l : Nat)
  | ifGoto (c : HostCond) (l : Nat)
deriving DecidableEq, Repr

/-- Who moves in one step: the host, the framer, or the reset input (R20, R240). -/
inductive Turn where
  | host
  | framer
  | reset
deriving DecidableEq, Repr

/-- The payload pointer of an assembler form: "an address, or the keyword `NULL`" (R91). -/
inductive AsmSrc where
  | addr (a : Nat)
  | null
deriving DecidableEq, Repr

/-- The assembler forms of R91, their operands unbounded numbers that the assembler range-checks. R91 does not say whether an
operand may be a host expression or a temporary, as `CSUM 0x100, n - 1` of 95_test_vectors.md P3 has it. DESIGN CHOICE: a form
takes constants only, and such a line is written as the host operations it stands for (notes/assumptions/22.md). -/
inductive Asm where
  | sys (dest sig : Nat)
  | cmdType (dest type : Nat)
  | cmdModes (dest modes visible : Nat)
  | cmdSpeed (dest speed : Nat)
  | cmdSelect (dest mode : Nat)
  | cmdWrite (dest : Nat) (src : AsmSrc) (len : Nat)
  | infoName (dest mode : Nat) (src : AsmSrc) (len : Nat)
  | infoSpan (dest mode spanType lower upper : Nat)
  | infoSymbol (dest mode : Nat) (src : AsmSrc) (len : Nat)
  | infoFormat (dest mode elems dtype width decimals : Nat)
  | data (dest mode : Nat) (src : AsmSrc) (len : Nat)
  | csum (src : AsmSrc) (len : Nat)
  | log2c (len : Nat)
  | lcode (len : Nat)
  | padsz (len : Nat)
  | wpad (dest len : Nat)
deriving DecidableEq, Repr

/-- Why the assembler refuses a form: "An operand value that does not fit its field is refused" (R91). -/
inductive AsmReject where
  /-- An address (`dest`, `src`) is not a 32-bit unsigned number. -/
  | addressRange
  /-- A byte operand is above 255. -/
  | byteRange
  /-- `len` is above 255. -/
  | lenRange
  /-- `speed`, `lower` or `upper` is not a 32-bit word. -/
  | wordRange
deriving DecidableEq, Repr

end Sys2Proof
end

