-- ==== Sys2Proof/Config.lean ====
section
/-! DEFINITION. The configuration record of 00_scope.md R9, the default profile of R11, and the FREE VALUES: opaque
constants without a body, for what the spec leaves unspecified. -/

namespace Sys2Proof

/-- The configuration parameters of R9. Values of 3-bit fields are bytes here and R10's check bounds them by 7. -/
structure Config where
  sysBase : Byte
  cmdBase : Byte
  infoBase : Byte
  dataBase : Byte
  sigAck : Byte
  sysSignals : List Byte
  subType : Byte
  subModes : Byte
  subSpeed : Byte
  subSelect : Byte
  subWrite : Byte
  /-- `MEM_SIZE`: bytes of the shared memory. -/
  memSize : Nat
  /-- `FRAMER_BASE`: the platform address of the register block. -/
  framerBase : Nat
deriving DecidableEq, Repr

/-- The profile `EV3_DEFAULT` of R11 with the `MEM_SIZE = 0x1000` of 95_test_vectors.md. No rule uses it; it is the
configuration that `State.reset` carries (notes/assumptions/1.md). DESIGN CHOICE (FRAMER_BASE = 0, MEM_SIZE), unsafe for
claims about `State.reset` alone. -/
def Config.ev3Default : Config where
  sysBase := 0x00
  cmdBase := 0x40
  infoBase := 0x80
  dataBase := 0xC0
  sigAck := 0x4
  sysSignals := [0x0, 0x2, 0x4, 0x6]
  subType := 0x0
  subModes := 0x1
  subSpeed := 0x2
  subSelect := 0x3
  subWrite := 0x4
  memSize := 0x1000
  framerBase := 0

/-- FREE VALUE: a byte of the write footprint of a command that reset abandons (R241, I11), by draw number. Safe. -/
opaque Config.freeByte : Nat → Byte

/-- FREE VALUE: `ACC` after the reset input (R240, I20), by draw number. Safe. -/
opaque Config.freeAcc : Nat → Byte

/-- FREE VALUE: `CUR` after the reset input (R240, I20), by draw number; it counts "from 0 to at most 127" (R38). Safe. -/
opaque Config.freeCur : Nat → Fin 128

/-- FREE VALUE: `PADCNT` after the reset input (R240, I20), by draw number. Safe. -/
opaque Config.freePadCnt : Nat → Byte

/-- FREE VALUE: a host temporary read before any assignment (R92 states no value), by its number
(notes/assumptions/11.md). -/
opaque Config.freeTemp : Nat → Int

/-- FREE VALUE: a host operator on operands R13 does not define it for: `& | << >>` are stated "on non-negative
integers" (notes/assumptions/9.md). -/
opaque Config.freeBin : HostBin → Int → Int → Int

/-- FREE VALUE: a slice `v[hi:lo]` of a negative integer, or with `hi < lo` (R13 states none;
notes/assumptions/9.md). -/
opaque Config.freeBits : Int → Nat → Nat → Int

/-- FREE VALUE: the 32-bit word a host write carries for an integer that is neither a 32-bit unsigned number nor −1
(R92 states none; notes/assumptions/10.md). -/
opaque Config.freeWord : Int → Word

/-- FREE VALUE: the byte a host store carries for an integer outside 0 to 255 (R92 states none;
notes/assumptions/10.md). -/
opaque Config.freeStoreByte : Int → Byte

end Sys2Proof
end

