-- ==== Sys2Proof/WellFormed.lean ====
section
/-! DEFINITION. What is well formed: a configuration (00_scope.md R9, R10), an assembler form (30_encoding.md R91) and a
host program (R92). A command has no operand, so every `Instr` is well formed. -/

namespace Sys2Proof

/-- The widths and ranges of R9: `MEM_SIZE` is 1 to 2^32, and `SYS_SIGNALS` contains `SIG_ACK`. -/
def Config.inRange (c : Config) : Bool :=
  decide (1 ≤ c.memSize) && decide (c.memSize ≤ 2 ^ 32) && c.sysSignals.contains c.sigAck

/-- R10, first: the bases use only bits [7:6]. -/
def Config.basesHigh (c : Config) : Bool :=
  (c.sysBase ||| c.cmdBase ||| c.infoBase ||| c.dataBase) &&& 0x3F == 0

/-- R10, second: "the four bases are pairwise distinct". -/
def Config.basesDistinct (c : Config) : Bool :=
  decide ([c.sysBase, c.cmdBase, c.infoBase, c.dataBase].Nodup)

/-- The five command sub-types (R9). -/
def Config.subs (c : Config) : List Byte :=
  [c.subType, c.subModes, c.subSpeed, c.subSelect, c.subWrite]

/-- R10, third: "every sub-type constant and every member of `SYS_SIGNALS` is at most 7". -/
def Config.fieldsSmall (c : Config) : Bool :=
  (c.subs ++ c.sysSignals).all fun v => decide (v ≤ 7)

/-- R10, fourth: "the five `SUB_*` values are pairwise distinct". -/
def Config.subsDistinct (c : Config) : Bool :=
  decide c.subs.Nodup

/-- R9 and R10 together: "A model refuses any configuration that is not well formed." -/
def Config.wellFormed (c : Config) : Bool :=
  c.inRange && c.basesHigh && c.basesDistinct && c.fieldsSmall && c.subsDistinct

/-- The first of the range checks that a form breaks. -/
def firstReject : List (Bool × AsmReject) → Option AsmReject
  | [] => none
  | (ok, r) :: rest => if ok then firstReject rest else some r

/-- An address operand fits 32 bits. -/
def addrFits (a : Nat) : Bool × AsmReject := (decide (a < 2 ^ 32), .addressRange)

/-- A byte operand is 0 to 255. -/
def byteFits (b : Nat) : Bool × AsmReject := (decide (b < 2 ^ 8), .byteRange)

/-- `len` is 0 to 255. -/
def lenFits (n : Nat) : Bool × AsmReject := (decide (n < 2 ^ 8), .lenRange)

/-- `speed`, `lower` and `upper` are 32-bit words. -/
def wordFits (w : Nat) : Bool × AsmReject := (decide (w < 2 ^ 32), .wordRange)

/-- `src` is an address, or `NULL`. -/
def srcFits : AsmSrc → Bool × AsmReject
  | .addr a => addrFits a
  | .null => (true, .addressRange)

/-- R91's constraints on each form: none when every operand fits its field, else the first reason. "A value that fits
but exceeds the protocol's range is not refused." -/
def Asm.reject : Asm → Option AsmReject
  | .sys d sig => firstReject [addrFits d, byteFits sig]
  | .cmdType d t => firstReject [addrFits d, byteFits t]
  | .cmdModes d m v => firstReject [addrFits d, byteFits m, byteFits v]
  | .cmdSpeed d s => firstReject [addrFits d, wordFits s]
  | .cmdSelect d m => firstReject [addrFits d, byteFits m]
  | .cmdWrite d s n => firstReject [addrFits d, srcFits s, lenFits n]
  | .infoName d m s n => firstReject [addrFits d, byteFits m, srcFits s, lenFits n]
  | .infoSpan d m st lo hi => firstReject [addrFits d, byteFits m, byteFits st, wordFits lo, wordFits hi]
  | .infoSymbol d m s n => firstReject [addrFits d, byteFits m, srcFits s, lenFits n]
  | .infoFormat d m e t w dp =>
    firstReject [addrFits d, byteFits m, byteFits e, byteFits t, byteFits w, byteFits dp]
  | .data d m s n => firstReject [addrFits d, byteFits m, srcFits s, lenFits n]
  | .csum s n => firstReject [srcFits s, lenFits n]
  | .log2c n => firstReject [lenFits n]
  | .lcode n => firstReject [lenFits n]
  | .padsz n => firstReject [lenFits n]
  | .wpad d n => firstReject [addrFits d, lenFits n]

/-- A form the assembler accepts. -/
def Asm.wellFormed (a : Asm) : Bool := a.reject.isNone

/-- The labels a program places, in order. -/
def labelsOf : List HostOp → List Nat
  | [] => []
  | .label l :: rest => l :: labelsOf rest
  | _ :: rest => labelsOf rest

/-- The labels a program jumps to. -/
def targetsOf : List HostOp → List Nat
  | [] => []
  | .ifGoto _ l :: rest => l :: targetsOf rest
  | _ :: rest => targetsOf rest

/-- A host program places each label once and jumps only to labels it places. -/
def programWellFormed (p : List HostOp) : Bool :=
  decide (labelsOf p).Nodup && (targetsOf p).all fun l => (labelsOf p).contains l

end Sys2Proof
end

