-- ==== Sys2Proof/Machine/State.lean ====
section
/-! DEFINITION. The machine's state as plain data: the register block (10_state.md R21 to R34), the hidden state (R36 to
R39), `MEM` (20_memory.md R60), the configuration (R40), the host agent of 30_encoding.md R92 and the model's own fields;
the reasons a step can stop; and the state after reset (R45). -/

namespace Sys2Proof.Machine

/-- The completion codes of 60_exceptions.md R211. The values 5 to 7 are "reserved, never produced". -/
inductive Code where
  | ok
  | einval
  | eundef
  | emem
  | eop
deriving DecidableEq, Repr

/-- The command latch `L` of R36. -/
structure Latch where
  w : Word
  dest : Word
  src : Word
  len : Byte
  a0 : Byte
  a1 : Byte
  a2 : Byte
  a3 : Byte
  a4 : Byte
  w0 : Word
  w1 : Word
  null : Bool
deriving DecidableEq, Repr

/-- The latch after reset: "all fields 0" (R36). -/
def Latch.zero : Latch where
  w := 0
  dest := 0
  src := 0
  len := 0
  a0 := 0
  a1 := 0
  a2 := 0
  a3 := 0
  a4 := 0
  w0 := 0
  w1 := 0
  null := false

/-- The range of addresses `[base, base + size)`. -/
structure Span where
  base : Nat
  size : Nat
deriving DecidableEq, Repr

/-- The memory ranges a command writes (`WF`) and reads (`RF`), 20_memory.md R74. -/
structure Footprint where
  wf : Span
  rf : Span
deriving DecidableEq, Repr

/-- `MEM` as the list of its bytes that differ from what an unlisted address reads as, addresses strictly rising. -/
abbrev Memory := List Host.Cell

/-- Where a step stops with a fault. No command of the opcode table raises one. -/
inductive Fault where
  /-- The host touched a byte it must not touch while a command is in flight (R76: "A model records a fault when the
  host violates this rule", I13). Raised by the host's `SB` and `LB`. Safe: the model stops where hardware goes on. -/
  | footprintHazard
  /-- The host loaded or stored a byte at an address outside `MEM` (R60: there is no such byte;
  notes/assumptions/12.md). Raised by the host's `SB` and `LB`. Safe. -/
  | hostOutsideMem
  /-- Two instances of a platform run commands whose footprints overlap (60_exceptions.md R224: "A model faults on them",
  I2). Raised by `platformStep` alone. Safe. -/
  | instanceOverlap
deriving DecidableEq, Repr

/-- What the model refuses. No command of the opcode table is refused. -/
inductive Refusal where
  /-- An instruction without a meaning. Every instruction has one, so nothing raises it. Safe. -/
  | notModelled (mnemonic : String)
  /-- The configuration is not well formed (R10: "A model refuses any configuration that is not well formed"). Raised by
  `step`, and by `platformStep` for instances that disagree on `MEM_SIZE` or share a register block. Safe. -/
  | configNotWellFormed
  /-- A host register access that is not 32 bits wide (R68, I12). Raised by the host's `W` and `R`. Safe. -/
  | registerAccessWidth
  /-- A host register access at an offset that is not a multiple of 4 (R68, I12). Raised by the host's `W` and `R`. Safe. -/
  | registerAccessMisaligned
  /-- A host register access outside the 64-byte block (R21; notes/assumptions/13.md). Raised by the host's `W` and `R`.
  Safe. -/
  | registerAccessOutsideBlock
  /-- The host jumps to a label that its program does not place (notes/assumptions/15.md). Raised by `IF cond GOTO`.
  Safe. -/
  | unknownLabel
deriving DecidableEq, Repr

/-- The state: the registers and hidden state of the block, `MEM`, the configuration, the agents. -/
structure State where
  /-- The configuration (R9, R40). A parameter of the model: no step changes it (notes/assumptions/1.md). -/
  cfg : Config
  /-- `CMD`, all 32 bits as written (R22). -/
  cmd : Word
  /-- `STATUS.CODE` (R23). -/
  code : Code
  /-- `STATUS.BUSY` (R23). -/
  busy : Bool
  /-- `RESULT` (R24). -/
  result : Word
  /-- `DEST` (R25). -/
  dest : Word
  /-- `SRC` (R26). -/
  src : Word
  /-- `LEN` [7:0] (R27). -/
  len : Byte
  /-- `ARGA` (R28). -/
  argA : Word
  /-- `ARGB` [7:0] (R29). -/
  argB : Byte
  /-- `WORD0` (R30). -/
  word0 : Word
  /-- `WORD1` (R31). -/
  word1 : Word
  /-- `FLAGS.SRC_NULL` (R32). -/
  srcNull : Bool
  /-- The command latch `L` (R36). -/
  latch : Latch
  /-- The checksum accumulator `ACC` (R37). -/
  acc : Byte
  /-- The emission cursor `CUR` (R38), a count. -/
  cur : Nat
  /-- The padding counter `PADCNT` (R39). -/
  padCnt : Byte
  /-- `MEM` (R60). -/
  mem : Memory
  /-- The model's own: the footprints of the commands in flight in the sense of R76 (notes/assumptions/14.md). -/
  inFlight : List Footprint
  /-- The model's own: how many free values the reset input has drawn (notes/assumptions/5.md). -/
  draws : Nat
  /-- The model's own: the turns to come (notes/assumptions/7.md). -/
  sched : List Turn
  /-- The host agent's program, a list of the operations of R92. -/
  hostProg : List HostOp
  /-- Where the host stands in its program. -/
  hostPc : Nat
  /-- The host's temporaries that hold a value, by rising number. -/
  hostTemps : List (Nat × Int)
deriving DecidableEq, Repr

/-- The machine right after reset under the configuration `c` (R45). The registers and the latch hold the values the spec
gives; `ACC`, `CUR` and `PADCNT` (notes/assumptions/3.md), `MEM` (2), `draws` (5), the schedule (7) and the host (8) are
DESIGN CHOICES. -/
def State.resetWith (c : Config) : State where
  cfg := c
  cmd := 0
  code := .ok
  busy := false
  result := 0
  dest := 0
  src := 0
  len := 0
  argA := 0
  argB := 0
  word0 := 0
  word1 := 0
  srcNull := false
  latch := Latch.zero
  acc := 0
  cur := 0
  padCnt := 0
  mem := []
  inFlight := []
  draws := 0
  sched := []
  hostProg := []
  hostPc := 0
  hostTemps := []

/-- The machine right after reset, under the spec's default profile (notes/assumptions/1.md). -/
def State.reset : State := State.resetWith Config.ev3Default

end Sys2Proof.Machine
end

