-- ==== Sys2Proof/Machine/Flags.lean ====
section
/-! DEFINITION. The block's only flags, `STATUS.BUSY` and `STATUS.CODE` (10_state.md R23, R43), as the status word the host
reads, and `FLAGS` as the word it reads (R32, R34). -/

namespace Sys2Proof.Machine

/-- The value of each completion code in `CODE` [2:0] (60_exceptions.md R211). -/
def codeBits : Code → Word
  | .ok => 0
  | .einval => 1
  | .eundef => 2
  | .emem => 3
  | .eop => 4

/-- `BUSY` at bit 8 (R23). -/
def busyBit (b : Bool) : Word := if b then 0x100 else 0

/-- The `STATUS` word: `CODE` [2:0], `BUSY` [8], every other bit 0 (R23). -/
def statusWord (c : Code) (b : Bool) : Word := codeBits c ||| busyBit b

/-- The `FLAGS` word: `SRC_NULL` [0], every other bit 0 (R32, R34). -/
def flagsWord (srcNull : Bool) : Word := if srcNull then 1 else 0

/-- `FLAGS` keeps bit 0 of a written word (R34). -/
def flagsKept (v : Word) : Bool := v.getLsbD 0

end Sys2Proof.Machine
end

