-- ==== Sys2Proof/Machine/Operands.lean ====
section
/-! DEFINITION. Operand assembly (30_encoding.md R82): each command's operands as fields of the latch, with DOC's masks;
the capture of the latch from the operand registers (10_state.md R36); the register map (R21). -/

namespace Sys2Proof.Machine

/-- `v[lo+7:lo]`: one byte of a register word (R13). -/
def byteAt (v : Word) (lo : Nat) : Byte := v.extractLsb' lo 8

/-- `L.DEST` as an address (R82, R63: "physical `MEM` addresses, used as given"). -/
def Latch.destAddr (l : Latch) : Nat := l.dest.toNat

/-- `L.SRC` as an address. -/
def Latch.srcAddr (l : Latch) : Nat := l.src.toNat

/-- `n = L.LEN`, unsigned. -/
def Latch.count (l : Latch) : Nat := l.len.toNat

/-- SYS: `sig = A0[2:0]`. -/
def Latch.sig (l : Latch) : Byte := l.a0 &&& 7

/-- CMD.TYPE: `type = A0`, all 8 bits. -/
def Latch.devType (l : Latch) : Byte := l.a0

/-- CMD.MODES: `modes = A0 & 7`. -/
def Latch.modes (l : Latch) : Byte := l.a0 &&& 7

/-- CMD.MODES: `visible = A1 & 7`. -/
def Latch.visible (l : Latch) : Byte := l.a1 &&& 7

/-- CMD.SPEED: `speed = W0`. -/
def Latch.speed (l : Latch) : Word := l.w0

/-- CMD.SELECT, INFO and DATA: `mode = A0 & 7`. -/
def Latch.mode (l : Latch) : Byte := l.a0 &&& 7

/-- INFO.SPAN: `span_type = A1`, all 8 bits. -/
def Latch.spanType (l : Latch) : Byte := l.a1

/-- INFO.SPAN: `lower = W0`, a bit pattern. -/
def Latch.lower (l : Latch) : Word := l.w0

/-- INFO.SPAN: `upper = W1`, a bit pattern. -/
def Latch.upper (l : Latch) : Word := l.w1

/-- INFO.FORMAT: `elems = A1 & 0x3F`. -/
def Latch.elems (l : Latch) : Byte := l.a1 &&& 0x3F

/-- INFO.FORMAT: `dtype = A2 & 0x03`. -/
def Latch.dtype (l : Latch) : Byte := l.a2 &&& 0x03

/-- INFO.FORMAT: `width = A3 & 0x0F`. -/
def Latch.width (l : Latch) : Byte := l.a3 &&& 0x0F

/-- INFO.FORMAT: `decimals = A4 & 0x0F`. -/
def Latch.decimals (l : Latch) : Byte := l.a4 &&& 0x0F

/-- What an accepted write of `w` to `CMD` captures (R36). -/
def capture (w : Word) (s : State) : Latch where
  w := w
  dest := s.dest
  src := s.src
  len := s.len
  a0 := byteAt s.argA 0
  a1 := byteAt s.argA 8
  a2 := byteAt s.argA 16
  a3 := byteAt s.argA 24
  a4 := s.argB
  w0 := s.word0
  w1 := s.word1
  null := s.srcNull

/-- The offset of each register in the block (R21). -/
def regOffset : Reg → Nat
  | .cmd => 0x00
  | .status => 0x04
  | .result => 0x08
  | .dest => 0x0C
  | .src => 0x10
  | .len => 0x14
  | .argA => 0x18
  | .argB => 0x1C
  | .word0 => 0x20
  | .word1 => 0x24
  | .flags => 0x28

/-- The register at an offset; none at the unmapped offsets 0x2C to 0x3C (R21, R33). -/
def regAt : Nat → Option Reg
  | 0x00 => some .cmd
  | 0x04 => some .status
  | 0x08 => some .result
  | 0x0C => some .dest
  | 0x10 => some .src
  | 0x14 => some .len
  | 0x18 => some .argA
  | 0x1C => some .argB
  | 0x20 => some .word0
  | 0x24 => some .word1
  | 0x28 => some .flags
  | _ => none

end Sys2Proof.Machine
end

