-- ==== Sys2Proof/Machine/Units.lean ====
section
/-! DEFINITION. The constant ROM (00_scope.md R7, R8) and the datapath units of 40_primitives.md: ceiling log2 (R122),
length code (R123), padding size (R124), checksum (R125), little-endian words (R14, R69), and the tag encoder
(30_encoding.md R84). -/

namespace Sys2Proof.Machine

/-- `MIN_PAYLOAD` (R7). -/
def minPayload : Nat := 1

/-- `MAX_D2H` (R7): the limit of DATA and of INFO.NAME's name. -/
def maxD2H : Nat := 32

/-- `MAX_H2D` (R7): the limit of CMD.WRITE. -/
def maxH2D : Nat := 24

/-- `MAX_SYMBOL` (R7): the limit of INFO.SYMBOL. -/
def maxSymbol : Nat := 8

/-- `BUFFER_MIN` (R7): a destination of this size holds any encoder frame (R89). -/
def bufferMin : Nat := 35

/-- `CSUM_SEED` (R7). -/
def csumSeed : Byte := 0xFF

/-- `LC_SHIFT` (R7). -/
def lcShift : Nat := 3

/-- `INFO_NAME_SUB` (R8). -/
def infoNameSub : Byte := 0x00

/-- `INFO_SYMBOL_SUB` (R8). -/
def infoSymbolSub : Byte := 0x04

/-- `INFO_FORMAT_SUB` (R8). -/
def infoFormatSub : Byte := 0x80

/-- Search upwards from `k` for the least exponent whose power reaches `v`, at most `fuel` steps. -/
def clog2From : Nat → Nat → Nat → Nat
  | 0, k, _ => k
  | fuel + 1, k, v => if v ≤ 2 ^ k then k else clog2From fuel (k + 1) v

/-- `clog2(v)` for `1 <= v <= 255`: "the least `k >= 0` with `2^k >= v`" (R122). No rule applies it to 0
(notes/assumptions/20.md). -/
def clog2 (v : Nat) : Nat := clog2From 8 0 v

/-- `LC(n) = (clog2(n) << 3) & 0xFF` (R123). -/
def lengthCode (n : Nat) : Byte := BitVec.ofNat 8 (clog2 n <<< lcShift)

/-- The padded length `P = 2^clog2(n)` (R87). -/
def padded (n : Nat) : Nat := 2 ^ clog2 n

/-- `PAD(n) = 2^clog2(n) − n` (R124). -/
def padCount (n : Nat) : Nat := padded n - n

/-- INFO.SYMBOL's flat padding `8 − n` (R182). -/
def symbolPadCount (n : Nat) : Nat := maxSymbol - n

/-- One byte through the checksum engine: `ACC <- ACC ^ b` (R125). -/
def engine (acc b : Byte) : Byte := acc ^^^ b

/-- `CSUM(xs) = 0xFF ^ xs[0] ^ ... ^ xs[|xs|−1]` (R125). -/
def checksum (xs : List Byte) : Byte := xs.foldl engine csumSeed

/-- `zeros(k)` (R14). -/
def zeros (k : Nat) : List Byte := List.replicate k 0x00

/-- `le32(w)`, least significant byte first (R14, R69). -/
def le32 (w : Word) : List Byte :=
  [w.extractLsb' 0 8, w.extractLsb' 8 8, w.extractLsb' 16 8, w.extractLsb' 24 8]

/-- `TAG(B, S, n) = (B | S | LC(n)) & 0xFF` (R84). -/
def tag (base sub : Byte) (n : Nat) : Byte := base ||| sub ||| lengthCode n

/-- `TAGSYS(sig) = SYS_BASE | sig`: "A system tag has no length code" (R84). -/
def sysTag (base sig : Byte) : Byte := base ||| sig

/-- The bytes `FRAME(xs)` writes: `xs`, then its checksum (R126). -/
def frameBytes (xs : List Byte) : List Byte := xs ++ [checksum xs]

end Sys2Proof.Machine
end

