-- ==== Sys2Proof/Machine/Ops.lean ====
section
/-! DEFINITION. The named operations the commands share: `MEM` (20_memory.md R60, R64), the checks (60_exceptions.md R212
to R214), the byte-serial emission through `CUR`, `ACC` and `PADCNT` (10_state.md R37 to R39, 40_primitives.md R124 to R126),
and the two completions (R121, R217). The block has no exceptions to take (R210); `finishFail` is what stands in their
place. -/

namespace Sys2Proof.Machine

/-- What one step answers. -/
abbrev Result := Host.Outcome State Fault Refusal

/-! ### Memory -/

/-- What a byte of `MEM` that nothing has written reads as. The power-on contents are unspecified (R242); DESIGN CHOICE,
unsafe (notes/assumptions/2.md): 0x00, what the programs of 95_test_vectors.md start from. -/
def Memory.unlisted : Byte := 0x00

/-- `MemRead(a, 1)` (R15). -/
def Memory.read : Memory → Nat → Byte
  | [], _ => Memory.unlisted
  | (a', v) :: rest, a => if a = a' then v else Memory.read rest a

/-- The cell that holds `v` at `a`, in canonical form: none for the value an unlisted address reads as. -/
def Memory.cell (a : Nat) (v : Byte) : Memory := if v = Memory.unlisted then [] else [(a, v)]

/-- `MemWrite(a, 1, v)` (R15), keeping the canonical form. -/
def Memory.write : Memory → Nat → Byte → Memory
  | [], a, v => Memory.cell a v
  | (a', v') :: rest, a, v =>
    if a < a' then Memory.cell a v ++ (a', v') :: rest
    else if a = a' then Memory.cell a v ++ rest
    else (a', v') :: Memory.write rest a v

/-- The canonical form: addresses strictly rising, and no cell equal to what an unlisted address reads as. -/
def Memory.wf : Memory → Bool
  | [] => true
  | [(_, v)] => decide (v ≠ Memory.unlisted)
  | (a, v) :: (a', v') :: rest =>
    decide (v ≠ Memory.unlisted) && decide (a < a') && Memory.wf ((a', v') :: rest)

/-- `MEM[a ..+ n]` (R14). -/
def Memory.readRange (m : Memory) (a : Nat) : Nat → List Byte
  | 0 => []
  | n + 1 => Memory.read m a :: Memory.readRange m (a + 1) n

/-- Write a list of bytes at ascending addresses from `a` (R64). -/
def Memory.writeRange (m : Memory) (a : Nat) : List Byte → Memory
  | [] => m
  | b :: bs => Memory.writeRange (Memory.write m a b) (a + 1) bs

/-- The source bytes `MEM[L.SRC ..+ L.LEN]`. -/
def sourceBytes (s : State) : List Byte := s.mem.readRange s.latch.srcAddr s.latch.count

/-! ### Checks -/

/-- `MEMCHECK(Nw, nr)` (R214): destination bounds, source bounds, overlap, on unbounded sums. -/
def memCheck (c : Config) (l : Latch) (nw nr : Nat) : Option Code :=
  if nw > 0 ∧ l.destAddr + nw > c.memSize then some .emem
  else if nr > 0 ∧ l.srcAddr + nr > c.memSize then some .emem
  else if nw > 0 ∧ nr > 0 ∧ l.srcAddr < l.destAddr + nw ∧ l.destAddr < l.srcAddr + nr then some .emem
  else none

/-- The length-range test: is `n` outside `[MIN_PAYLOAD, hi]` (R212)? -/
def lenOutside (hi n : Nat) : Bool := decide (n < minPayload) || decide (n > hi)

/-! ### Emission -/

/-- Every command starts with `CUR` at 0 (R38); DEDUCED: in its completion step (notes/assumptions/6.md). -/
def beginCommand (s : State) : State := { s with cur := 0 }

/-- `ACC <- CSUM_SEED` (R37, R125). -/
def seedAcc (s : State) : State := { s with acc := csumSeed }

/-- Write one byte at `L.DEST + CUR`, past the checksum engine, and step the cursor (R38). -/
def emitRaw (b : Byte) (s : State) : State :=
  { s with mem := s.mem.write (s.latch.destAddr + s.cur) b, cur := s.cur + 1 }

/-- Pass one byte through the checksum engine without writing it (CSUM, R130). -/
def foldByte (b : Byte) (s : State) : State := { s with acc := engine s.acc b }

/-- Emit one byte of a frame through the checksum engine (R126). -/
def emitByte (b : Byte) (s : State) : State := emitRaw b (foldByte b s)

/-- Emit a list of frame bytes in order. -/
def emitBytes : List Byte → State → State
  | [], s => s
  | b :: bs, s => emitBytes bs (emitByte b s)

/-- Pass a list of bytes through the checksum engine. -/
def foldBytes : List Byte → State → State
  | [], s => s
  | b :: bs, s => foldBytes bs (foldByte b s)

/-- `PADCNT <- p` (R124). -/
def loadPad (p : Nat) (s : State) : State := { s with padCnt := BitVec.ofNat 8 p }

/-- `PADCNT <- PADCNT − 1` (R124). -/
def dropPad (s : State) : State := { s with padCnt := s.padCnt - 1 }

/-- `PADCNT` rounds of padding through the checksum engine: "emits one 0x00 byte ..., then `PADCNT <- PADCNT − 1`"
(R124). -/
def drainPad : Nat → State → State
  | 0, s => s
  | k + 1, s => drainPad k (dropPad (emitByte 0x00 s))

/-- The same for WPAD, whose bytes "do not pass through the checksum engine" (R134). -/
def drainPadRaw : Nat → State → State
  | 0, s => s
  | k + 1, s => drainPadRaw k (dropPad (emitRaw 0x00 s))

/-- The rounds of padding the counter orders: until it reaches 0 (R39). -/
def runPad (s : State) : State := drainPad s.padCnt.toNat s

/-- WPAD's rounds. -/
def runPadRaw (s : State) : State := drainPadRaw s.padCnt.toNat s

/-- The checksum byte: what `ACC` holds, written last (R126). -/
def emitChecksum (s : State) : State := emitRaw s.acc s

/-- `FRAME(xs ++ zeros(pad))` by the byte-serial datapath (R124, R125, R126): seed `ACC`, emit `xs`, load `PADCNT`, emit the
padding, emit the checksum; yields the number of bytes written. -/
def emitFrame (xs : List Byte) (pad : Nat) (s : State) : State × Nat :=
  (emitChecksum (runPad (loadPad pad (emitBytes xs (seedAcc s)))), xs.length + pad + 1)

/-! ### Completion -/

/-- The failure sentinel −1 (R12). -/
def sentinel : Word := 0xFFFFFFFF

/-- Success: `RESULT <- zext_32(v)`, `STATUS.CODE <- OK`, `STATUS.BUSY <- 0` (R121). -/
def finishOk (v : Nat) (s : State) : State :=
  { s with result := BitVec.ofNat 32 v, code := .ok, busy := false }

/-- `fail c`: no byte of `MEM`, `RESULT <- −1`, `STATUS.CODE <- c`, `STATUS.BUSY <- 0` (R217). -/
def finishFail (c : Code) (s : State) : State :=
  { s with result := sentinel, code := c, busy := false }

/-- The completion step of a command (R120, R121): "Every check comes before every write". `chk` is the code of the
first failing check; `body` performs the writes and yields the value. -/
def completeWith (chk : Option Code) (body : State → State × Nat) (s : State) : State :=
  match chk with
  | some c => finishFail c (beginCommand s)
  | none => finishOk (body (beginCommand s)).2 (body (beginCommand s)).1

end Sys2Proof.Machine
end

