-- ==== Sys2Proof/Machine/Command.lean ====
section
/-! DEFINITION. The command message family (42_command.md): five frames tagged `TAG(CMD_BASE, SUB_x, n)`. -/

namespace Sys2Proof.Machine

/-- CMD.TYPE's checks (R160). -/
def checksCmdType (c : Config) (l : Latch) : Option Code := memCheck c l 3 0

/-- CMD.TYPE (R160). -/
def execCmdType (s : State) : Host.Outcome State Fault Refusal :=
  .next (completeWith (checksCmdType s.cfg s.latch)
    (fun t => emitFrame [tag t.cfg.cmdBase t.cfg.subType 1, t.latch.devType] 0 t) s)

/-- CMD.MODES's checks (R161). -/
def checksCmdModes (c : Config) (l : Latch) : Option Code := memCheck c l 4 0

/-- CMD.MODES (R161): "values above 7 are masked, never rejected". -/
def execCmdModes (s : State) : Host.Outcome State Fault Refusal :=
  .next (completeWith (checksCmdModes s.cfg s.latch)
    (fun t => emitFrame [tag t.cfg.cmdBase t.cfg.subModes 2, t.latch.modes, t.latch.visible] 0 t) s)

/-- CMD.SPEED's checks (R162). -/
def checksCmdSpeed (c : Config) (l : Latch) : Option Code := memCheck c l 6 0

/-- CMD.SPEED (R162): the speed little-endian, unchanged. -/
def execCmdSpeed (s : State) : Host.Outcome State Fault Refusal :=
  .next (completeWith (checksCmdSpeed s.cfg s.latch)
    (fun t => emitFrame (tag t.cfg.cmdBase t.cfg.subSpeed 4 :: le32 t.latch.speed) 0 t) s)

/-- CMD.SELECT's checks (R163). -/
def checksCmdSelect (c : Config) (l : Latch) : Option Code := memCheck c l 3 0

/-- CMD.SELECT (R163). -/
def execCmdSelect (s : State) : Host.Outcome State Fault Refusal :=
  .next (completeWith (checksCmdSelect s.cfg s.latch)
    (fun t => emitFrame [tag t.cfg.cmdBase t.cfg.subSelect 1, t.latch.mode] 0 t) s)

/-- CMD.WRITE's checks (R164): the range [1,24], then the pointer, then the memory check. -/
def checksCmdWrite (c : Config) (l : Latch) : Option Code :=
  if lenOutside maxH2D l.count then some .einval
  else if l.null then some .eundef
  else memCheck c l (2 + padded l.count) l.count

/-- CMD.WRITE (R164). -/
def execCmdWrite (s : State) : Host.Outcome State Fault Refusal :=
  .next (completeWith (checksCmdWrite s.cfg s.latch)
    (fun t => emitFrame (tag t.cfg.cmdBase t.cfg.subWrite t.latch.count :: sourceBytes t) (padCount t.latch.count) t) s)

end Sys2Proof.Machine
end

