-- ==== Sys2Proof/Machine/Data.lean ====
section
/-! DEFINITION. The data message family (44_data.md). -/

namespace Sys2Proof.Machine

/-- DATA's checks (R200): the range [1,32], then the pointer, then the memory check. -/
def checksData (c : Config) (l : Latch) : Option Code :=
  if lenOutside maxD2H l.count then some .einval
  else if l.null then some .eundef
  else memCheck c l (2 + padded l.count) l.count

/-- DATA (R200). -/
def execData (s : State) : Host.Outcome State Fault Refusal :=
  .next (completeWith (checksData s.cfg s.latch)
    (fun t => emitFrame (tag t.cfg.dataBase t.latch.mode t.latch.count :: sourceBytes t) (padCount t.latch.count) t) s)

end Sys2Proof.Machine
end

