-- ==== Sys2Proof/Machine/Info.lean ====
section
/-! DEFINITION. The information message family (43_info.md): four frames tagged `TAG(INFO_BASE, mode & 7, n)`, the subtype
byte at offset 1. "The length code and the padding count the payload only" (30_encoding.md R88). -/

namespace Sys2Proof.Machine

/-- INFO.NAME's checks (R180): the range [1,32] or a null name, both EINVAL; then the memory check. -/
def checksInfoName (c : Config) (l : Latch) : Option Code :=
  if lenOutside maxD2H l.count || l.null then some .einval
  else memCheck c l (3 + padded l.count) l.count

/-- INFO.NAME (R180): "The name bytes are copied raw". -/
def execInfoName (s : State) : Host.Outcome State Fault Refusal :=
  .next (completeWith (checksInfoName s.cfg s.latch)
    (fun t => emitFrame (tag t.cfg.infoBase t.latch.mode t.latch.count :: infoNameSub :: sourceBytes t)
      (padCount t.latch.count) t) s)

/-- INFO.SPAN's checks (R181). -/
def checksInfoSpan (c : Config) (l : Latch) : Option Code := memCheck c l 11 0

/-- INFO.SPAN (R181): the floats are "bit patterns, moved without arithmetic" (R129). -/
def execInfoSpan (s : State) : Host.Outcome State Fault Refusal :=
  .next (completeWith (checksInfoSpan s.cfg s.latch)
    (fun t => emitFrame (tag t.cfg.infoBase t.latch.mode 8 :: t.latch.spanType ::
      (le32 t.latch.lower ++ le32 t.latch.upper)) 0 t) s)

/-- INFO.SYMBOL's checks (R182): the range [1,8] or a null symbol, both EINVAL; then the memory check. -/
def checksInfoSymbol (c : Config) (l : Latch) : Option Code :=
  if lenOutside maxSymbol l.count || l.null then some .einval
  else memCheck c l 11 l.count

/-- INFO.SYMBOL (R182): "The length code is always `LC(8)`", and the padding "is the flat `8 − n`, not `PAD(n)`". -/
def execInfoSymbol (s : State) : Host.Outcome State Fault Refusal :=
  .next (completeWith (checksInfoSymbol s.cfg s.latch)
    (fun t => emitFrame (tag t.cfg.infoBase t.latch.mode 8 :: infoSymbolSub :: sourceBytes t)
      (symbolPadCount t.latch.count) t) s)

/-- INFO.FORMAT's checks (R183). -/
def checksInfoFormat (c : Config) (l : Latch) : Option Code := memCheck c l 7 0

/-- INFO.FORMAT (R183): all fields masked to fit. -/
def execInfoFormat (s : State) : Host.Outcome State Fault Refusal :=
  .next (completeWith (checksInfoFormat s.cfg s.latch)
    (fun t => emitFrame [tag t.cfg.infoBase t.latch.mode 4, infoFormatSub, t.latch.elems, t.latch.dtype,
      t.latch.width, t.latch.decimals] 0 t) s)

end Sys2Proof.Machine
end

