-- ==== Sys2Proof/Machine/Primitives.lean ====
section
/-! DEFINITION. The primitive commands (40_primitives.md R130 to R134): the datapath units as commands of their own. -/

namespace Sys2Proof.Machine

/-- CSUM's checks (R130). -/
def checksCsum (c : Config) (l : Latch) : Option Code :=
  if l.count > 0 ∧ l.null then some .eundef else memCheck c l 0 l.count

/-- CSUM (R130): seed `ACC`, fold the range, yield `ACC`; no writes. -/
def execCsum (s : State) : Host.Outcome State Fault Refusal :=
  .next (completeWith (checksCsum s.cfg s.latch)
    (fun t => (foldBytes (sourceBytes t) (seedAcc t), (foldBytes (sourceBytes t) (seedAcc t)).acc.toNat)) s)

/-- LOG2C's checks (R131). -/
def checksLog2c (_ : Config) (l : Latch) : Option Code := if l.count = 0 then some .eundef else none

/-- LOG2C (R131): yields `clog2(n)`, with no writes. -/
def execLog2c (s : State) : Host.Outcome State Fault Refusal :=
  .next (completeWith (checksLog2c s.cfg s.latch) (fun t => (t, clog2 t.latch.count)) s)

/-- LCODE's checks (R132). -/
def checksLcode (_ : Config) (l : Latch) : Option Code := if l.count = 0 then some .eundef else none

/-- LCODE (R132): yields `LC(n)`, with no writes. -/
def execLcode (s : State) : Host.Outcome State Fault Refusal :=
  .next (completeWith (checksLcode s.cfg s.latch) (fun t => (t, (lengthCode t.latch.count).toNat)) s)

/-- PADSZ's checks (R133). -/
def checksPadsz (_ : Config) (l : Latch) : Option Code := if l.count = 0 then some .eundef else none

/-- PADSZ (R133): yields `PAD(n)`, with no writes. -/
def execPadsz (s : State) : Host.Outcome State Fault Refusal :=
  .next (completeWith (checksPadsz s.cfg s.latch) (fun t => (t, padCount t.latch.count)) s)

/-- WPAD's checks (R134): "a power of two `n` ... no bounds check". -/
def checksWpad (c : Config) (l : Latch) : Option Code :=
  if l.count = 0 then some .eundef else memCheck c l (padCount l.count) 0

/-- WPAD (R134): `PAD(n)` zero bytes at `L.DEST`, yields their number; "No checksum is computed". -/
def execWpad (s : State) : Host.Outcome State Fault Refusal :=
  .next (completeWith (checksWpad s.cfg s.latch)
    (fun t => (runPadRaw (loadPad (padCount t.latch.count) t), padCount t.latch.count)) s)

end Sys2Proof.Machine
end

