-- ==== Sys2Proof/Machine/System.lean ====
section
/-! DEFINITION. The system signal family (41_system.md). -/

namespace Sys2Proof.Machine

/-- SYS's checks (R150). -/
def checksSys (c : Config) (l : Latch) : Option Code := memCheck c l 1 0

/-- SYS (R150): one byte `SYS_BASE | sig`; "no length code, no body, no padding and no checksum". -/
def execSys (s : State) : Host.Outcome State Fault Refusal :=
  .next (completeWith (checksSys s.cfg s.latch)
    (fun t => (emitRaw (sysTag t.cfg.sysBase t.latch.sig) (loadPad 0 t), 1)) s)

end Sys2Proof.Machine
end

