-- ==== Sys2Proof/Machine/Dispatch.lean ====
section
/-! DEFINITION. One arm per command of the opcode table. -/

namespace Sys2Proof.Machine

/-- The completion step of the command `i` (40_primitives.md R120, R121), in a state whose latch holds its operands. -/
def exec (i : Instr) (s : State) : Host.Outcome State Fault Refusal :=
  match i with
  | .sys => Sys2Proof.Machine.execSys s
  | .cmdType => Sys2Proof.Machine.execCmdType s
  | .cmdModes => Sys2Proof.Machine.execCmdModes s
  | .cmdSpeed => Sys2Proof.Machine.execCmdSpeed s
  | .cmdSelect => Sys2Proof.Machine.execCmdSelect s
  | .cmdWrite => Sys2Proof.Machine.execCmdWrite s
  | .infoName => Sys2Proof.Machine.execInfoName s
  | .infoSpan => Sys2Proof.Machine.execInfoSpan s
  | .infoSymbol => Sys2Proof.Machine.execInfoSymbol s
  | .infoFormat => Sys2Proof.Machine.execInfoFormat s
  | .data => Sys2Proof.Machine.execData s
  | .csum => Sys2Proof.Machine.execCsum s
  | .log2c => Sys2Proof.Machine.execLog2c s
  | .lcode => Sys2Proof.Machine.execLcode s
  | .padsz => Sys2Proof.Machine.execPadsz s
  | .wpad => Sys2Proof.Machine.execWpad s

end Sys2Proof.Machine
end

