-- ==== Sys2Proof/Decode.lean ====
section
/-! DEFINITION. The command word's decoder and encoder (30_encoding.md R80, R81, R83). The word is what `CMD` holds; it
is never laid out in memory, and "the byte order of the register bus is never observable" (20_memory.md R71), so the
decoder takes the word whole. -/

namespace Sys2Proof

/-- `OP` is `w[4:0]` (R80). -/
def opField (w : Word) : Nat := w.toNat % 2 ^ 5

/-- `RSV` is `w[31:5]` (R80). -/
def rsvField (w : Word) : Nat := w.toNat / 2 ^ 5

/-- The opcode map of R81; 0x10 to 0x1F are reserved. -/
def opcodeMap : Nat → Option Instr
  | 0x00 => some .sys
  | 0x01 => some .cmdType
  | 0x02 => some .cmdModes
  | 0x03 => some .cmdSpeed
  | 0x04 => some .cmdSelect
  | 0x05 => some .cmdWrite
  | 0x06 => some .infoName
  | 0x07 => some .infoSpan
  | 0x08 => some .infoSymbol
  | 0x09 => some .infoFormat
  | 0x0A => some .data
  | 0x0B => some .csum
  | 0x0C => some .log2c
  | 0x0D => some .lcode
  | 0x0E => some .padsz
  | 0x0F => some .wpad
  | _ => none

/-- Decoding is total: a word is a command, or is rejected by name (R83). -/
def decode (w : Word) : Except Reject Instr :=
  if rsvField w ≠ 0 then .error .rsvNonzero
  else
    match opcodeMap (opField w) with
    | some i => .ok i
    | none => .error .opReserved

/-- The command word of each command: the table's `match` with `RSV = 0` (R81). -/
def encode : Instr → Word
  | .sys => 0x00000000
  | .cmdType => 0x00000001
  | .cmdModes => 0x00000002
  | .cmdSpeed => 0x00000003
  | .cmdSelect => 0x00000004
  | .cmdWrite => 0x00000005
  | .infoName => 0x00000006
  | .infoSpan => 0x00000007
  | .infoSymbol => 0x00000008
  | .infoFormat => 0x00000009
  | .data => 0x0000000A
  | .csum => 0x0000000B
  | .log2c => 0x0000000C
  | .lcode => 0x0000000D
  | .padsz => 0x0000000E
  | .wpad => 0x0000000F

/-- The 32-bit word that an instruction of `nbits` bits `w` stands for, the bits above `nbits` zero; none if the bits
do not fit the one 32-bit format of R80. -/
def tableWord (nbits w : Nat) : Option Word :=
  if w % 2 ^ nbits < 2 ^ 32 then some (BitVec.ofNat 32 (w % 2 ^ nbits)) else none

/-- The instruction the decoder reads from a table row's bits; none where it rejects the word. -/
def decodeTableWord (nbits w : Nat) : Option Instr :=
  match tableWord nbits w with
  | some v =>
    match decode v with
    | .ok i => some i
    | .error _ => none
  | none => none

end Sys2Proof
end

