-- ==== Sys2Proof/Machine/Footprint.lean ====
section
/-! DEFINITION. What a command touches: `NOK` (40_primitives.md R127) and the footprints `WF` and `RF` (20_memory.md R74),
functions of the latch and the configuration that the host can compute beforehand. -/

namespace Sys2Proof.Machine

/-- The checks of each command, in the order of 60_exceptions.md R216. -/
def checksOf : Instr → Config → Latch → Option Code
  | .sys => checksSys
  | .cmdType => checksCmdType
  | .cmdModes => checksCmdModes
  | .cmdSpeed => checksCmdSpeed
  | .cmdSelect => checksCmdSelect
  | .cmdWrite => checksCmdWrite
  | .infoName => checksInfoName
  | .infoSpan => checksInfoSpan
  | .infoSymbol => checksInfoSymbol
  | .infoFormat => checksInfoFormat
  | .data => checksData
  | .csum => checksCsum
  | .log2c => checksLog2c
  | .lcode => checksLcode
  | .padsz => checksPadsz
  | .wpad => checksWpad

/-- `NOK(op, n)`: "the byte count a command writes when it completes with `OK`" (R127). -/
def nok : Instr → Nat → Nat
  | .sys, _ => 1
  | .cmdType, _ => 3
  | .cmdModes, _ => 4
  | .cmdSpeed, _ => 6
  | .cmdSelect, _ => 3
  | .cmdWrite, n => 2 + padded n
  | .infoName, n => 3 + padded n
  | .infoSpan, _ => 11
  | .infoSymbol, _ => 11
  | .infoFormat, _ => 7
  | .data, n => 2 + padded n
  | .csum, _ => 0
  | .log2c, _ => 0
  | .lcode, _ => 0
  | .padsz, _ => 0
  | .wpad, n => padCount n

/-- How many source bytes a command reads: `L.LEN` for CMD.WRITE, INFO.NAME, INFO.SYMBOL, DATA and CSUM (R64, R74). -/
def readCount : Instr → Nat → Nat
  | .sys, _ => 0
  | .cmdType, _ => 0
  | .cmdModes, _ => 0
  | .cmdSpeed, _ => 0
  | .cmdSelect, _ => 0
  | .cmdWrite, n => n
  | .infoName, n => n
  | .infoSpan, _ => 0
  | .infoSymbol, n => n
  | .infoFormat, _ => 0
  | .data, n => n
  | .csum, n => n
  | .log2c, _ => 0
  | .lcode, _ => 0
  | .padsz, _ => 0
  | .wpad, _ => 0

/-- The empty footprints of a command that will not complete with `OK` (R74). -/
def Footprint.empty : Footprint := ⟨⟨0, 0⟩, ⟨0, 0⟩⟩

/-- The footprints of the latched command (R74). -/
def footprint (c : Config) (l : Latch) : Footprint :=
  match decode l.w with
  | .error _ => Footprint.empty
  | .ok i =>
    match checksOf i c l with
    | some _ => Footprint.empty
    | none => ⟨⟨l.destAddr, nok i l.count⟩, ⟨l.srcAddr, readCount i l.count⟩⟩

/-- Is the address in the range? -/
def Span.has (r : Span) (a : Nat) : Bool := decide (r.base ≤ a) && decide (a < r.base + r.size)

/-- While a command is in flight the host "must not read ... any byte of `WF`" (R76). -/
def readHazard (fs : List Footprint) (a : Nat) : Bool := fs.any fun f => f.wf.has a

/-- While a command is in flight the host "must not write any byte of `RF`, and must not ... write any byte of `WF`"
(R76). -/
def writeHazard (fs : List Footprint) (a : Nat) : Bool := fs.any fun f => f.wf.has a || f.rf.has a

end Sys2Proof.Machine
end

