-- ==== Sys2Proof/Machine/RegisterBlock.lean ====
section
/-! DEFINITION. The register block as the host reaches it (10_state.md R21 to R36, 20_memory.md R68): which accesses are
supported, what a write does, what a read returns. -/

namespace Sys2Proof.Machine

/-- The offset that a register access at a platform address reaches: "only by 32-bit reads and writes at word-aligned
offsets" of the 64-byte block at `FRAMER_BASE` (R21, R68); any other access is refused (I12). -/
def registerSlot (c : Config) (addr width : Nat) : Except Refusal Nat :=
  if addr < c.framerBase ∨ addr ≥ c.framerBase + 64 then .error .registerAccessOutsideBlock
  else if width ≠ 4 then .error .registerAccessWidth
  else if (addr - c.framerBase) % 4 ≠ 0 then .error .registerAccessMisaligned
  else .ok (addr - c.framerBase)

/-- An accepted write of `w` to `CMD`: "`CMD <- w`; the latch capture of rule R36; `STATUS.BUSY <- 1`" (R22). The command's
footprints are in flight from here (R76). -/
def acceptCommand (w : Word) (s : State) : State :=
  { s with cmd := w, latch := capture w s, busy := true, inFlight := footprint s.cfg (capture w s) :: s.inFlight }

/-- A host write to `CMD`: accepted if `BUSY = 0`; ignored, changing no state, if `BUSY = 1` (R22, R248). -/
def writeCmd (w : Word) (s : State) : State := if s.busy then s else acceptCommand w s

/-- A write to `DEST` (R25). -/
def writeDest (v : Word) (s : State) : State := { s with dest := v }

/-- A write to `SRC` (R26). -/
def writeSrc (v : Word) (s : State) : State := { s with src := v }

/-- A write to `LEN` keeps bits [7:0] (R27, R34). -/
def writeLen (v : Word) (s : State) : State := { s with len := byteAt v 0 }

/-- A write to `ARGA` (R28). -/
def writeArgA (v : Word) (s : State) : State := { s with argA := v }

/-- A write to `ARGB` keeps bits [7:0] (R29, R34). -/
def writeArgB (v : Word) (s : State) : State := { s with argB := byteAt v 0 }

/-- A write to `WORD0` (R30). -/
def writeWord0 (v : Word) (s : State) : State := { s with word0 := v }

/-- A write to `WORD1` (R31). -/
def writeWord1 (v : Word) (s : State) : State := { s with word1 := v }

/-- A write to `FLAGS` keeps bit 0 (R32, R34). -/
def writeFlags (v : Word) (s : State) : State := { s with srcNull := flagsKept v }

/-- A host write of `v` to a register: `STATUS` and `RESULT` ignore it (R23, R24); an operand register takes it "at once,
whatever `BUSY` is" (R35). -/
def writeReg (r : Reg) (v : Word) (s : State) : State :=
  match r with
  | .cmd => writeCmd v s
  | .status => s
  | .result => s
  | .dest => writeDest v s
  | .src => writeSrc v s
  | .len => writeLen v s
  | .argA => writeArgA v s
  | .argB => writeArgB v s
  | .word0 => writeWord0 v s
  | .word1 => writeWord1 v s
  | .flags => writeFlags v s

/-- A host write of `v` at an offset: ignored at the unmapped offsets (R33). -/
def writeOffset (o : Nat) (v : Word) (s : State) : State :=
  match regAt o with
  | some r => writeReg r v s
  | none => s

/-- What a host read of a register returns (R22 to R34). -/
def readReg (r : Reg) (s : State) : Word :=
  match r with
  | .cmd => s.cmd
  | .status => statusWord s.code s.busy
  | .result => s.result
  | .dest => s.dest
  | .src => s.src
  | .len => s.len.setWidth 32
  | .argA => s.argA
  | .argB => s.argB.setWidth 32
  | .word0 => s.word0
  | .word1 => s.word1
  | .flags => flagsWord s.srcNull

/-- What a host read at an offset returns: 0 at the unmapped offsets (R33). -/
def readOffset (o : Nat) (s : State) : Word :=
  match regAt o with
  | some r => readReg r s
  | none => 0

/-- The model's own record of what the host has seen: a read of `STATUS` that returns `BUSY = 0` ends the flight of every
command before it (R75, R76). No architectural state changes: "Register reads have no side effects" (R67). -/
def observe (o : Nat) (s : State) : State :=
  if o = regOffset .status ∧ s.busy = false then { s with inFlight := [] } else s

end Sys2Proof.Machine
end

