-- ==== Sys2Proof/Machine/HostAgent.lean ====
section
/-! DEFINITION. The host agent: the meaning of each host operation of 30_encoding.md R92 and one turn of the host. The
host's temporaries, its place in the program and its integer arithmetic are its own; the block sees only register and `MEM`
accesses (00_scope.md R6). -/

namespace Sys2Proof.Machine

/-- The value of a temporary; a free value before its first assignment (notes/assumptions/11.md). -/
def readTemp : List (Nat × Int) → Nat → Int
  | [], t => Config.freeTemp t
  | (t', v) :: rest, t => if t = t' then v else readTemp rest t

/-- Set a temporary, keeping the numbers rising. -/
def writeTemp : List (Nat × Int) → Nat → Int → List (Nat × Int)
  | [], t, v => [(t, v)]
  | (t', v') :: rest, t, v =>
    if t < t' then (t, v) :: (t', v') :: rest
    else if t = t' then (t, v) :: rest
    else (t', v') :: writeTemp rest t v

/-- The host's operators "on unbounded integers" (R92); `& | << >>` are defined "on non-negative integers" (R13), and a
free value elsewhere (notes/assumptions/9.md). -/
def hostBin (op : HostBin) (x y : Int) : Int :=
  match op with
  | .add => x + y
  | .sub => x - y
  | .and => if 0 ≤ x ∧ 0 ≤ y then ((x.toNat &&& y.toNat : Nat) : Int) else Config.freeBin .and x y
  | .or => if 0 ≤ x ∧ 0 ≤ y then ((x.toNat ||| y.toNat : Nat) : Int) else Config.freeBin .or x y
  | .shl => if 0 ≤ x ∧ 0 ≤ y then ((x.toNat <<< y.toNat : Nat) : Int) else Config.freeBin .shl x y
  | .shr => if 0 ≤ x ∧ 0 ≤ y then ((x.toNat >>> y.toNat : Nat) : Int) else Config.freeBin .shr x y

/-- `v[hi:lo]`: "bits `hi` down to `lo` of `v`, zero-extended" (R13). -/
def hostBits (v : Int) (hi lo : Nat) : Int :=
  if 0 ≤ v ∧ lo ≤ hi then ((v.toNat / 2 ^ lo % 2 ^ (hi + 1 - lo) : Nat) : Int) else Config.freeBits v hi lo

/-- The value of a host expression. -/
def evalExpr (temps : List (Nat × Int)) : HostExpr → Int
  | .lit v => v
  | .temp t => readTemp temps t
  | .bits e hi lo => hostBits (evalExpr temps e) hi lo
  | .bin op a b => hostBin op (evalExpr temps a) (evalExpr temps b)

/-- The value of a host condition. -/
def evalCond (temps : List (Nat × Int)) : HostCond → Bool
  | .eq a b => decide (evalExpr temps a = evalExpr temps b)
  | .ne a b => decide (evalExpr temps a ≠ evalExpr temps b)
  | .lt a b => decide (evalExpr temps a < evalExpr temps b)
  | .le a b => decide (evalExpr temps a ≤ evalExpr temps b)

/-- The 32-bit word that carries an integer: itself when it is a 32-bit unsigned number, 0xFFFFFFFF for −1 (R13), a free
value otherwise (notes/assumptions/10.md). -/
def busWord (v : Int) : Word :=
  if 0 ≤ v ∧ v < 2 ^ 32 then BitVec.ofNat 32 v.toNat
  else if v = -1 then 0xFFFFFFFF
  else Config.freeWord v

/-- The byte that carries an integer: itself when it is 0 to 255, a free value otherwise (notes/assumptions/10.md). -/
def busByte (v : Int) : Byte :=
  if 0 ≤ v ∧ v < 2 ^ 8 then BitVec.ofNat 8 v.toNat else Config.freeStoreByte v

/-- The host goes on to its next operation. -/
def hostNext (s : State) : State := { s with hostPc := s.hostPc + 1 }

/-- The host goes on at operation `k`. -/
def hostJump (k : Nat) (s : State) : State := { s with hostPc := k }

/-- The host sets a temporary. -/
def setTemp (t : Nat) (v : Int) (s : State) : State := { s with hostTemps := writeTemp s.hostTemps t v }

/-- The host stores a byte. -/
def storeMem (a : Nat) (b : Byte) (s : State) : State := { s with mem := s.mem.write a b }

/-- Where the program places a label. -/
def findLabel (l : Nat) : List HostOp → Option Nat
  | [] => none
  | .label l' :: rest => if l = l' then some 0 else (findLabel l rest).map (· + 1)
  | .write _ _ _ :: rest => (findLabel l rest).map (· + 1)
  | .read _ _ _ :: rest => (findLabel l rest).map (· + 1)
  | .storeByte _ _ :: rest => (findLabel l rest).map (· + 1)
  | .loadByte _ _ :: rest => (findLabel l rest).map (· + 1)
  | .assign _ _ :: rest => (findLabel l rest).map (· + 1)
  | .ifGoto _ _ :: rest => (findLabel l rest).map (· + 1)

/-- Is the integer an address of `MEM` (R60)? -/
def inMem (c : Config) (a : Int) : Bool := decide (0 ≤ a) && decide (a < (c.memSize : Int))

/-- `W`: a register write (R92, R35, R22). -/
def hostWrite (offset width : Nat) (v : HostExpr) (s : State) : Result :=
  match registerSlot s.cfg (s.cfg.framerBase + offset) width with
  | .error r => .refused r
  | .ok o => .next (hostNext (writeOffset o (busWord (evalExpr s.hostTemps v)) s))

/-- `R`: a register read into a temporary (R92, R67). -/
def hostRead (offset width t : Nat) (s : State) : Result :=
  match registerSlot s.cfg (s.cfg.framerBase + offset) width with
  | .error r => .refused r
  | .ok o => .next (hostNext (observe o (setTemp t ((readOffset o s).toNat : Int) s)))

/-- `SB`: store a byte; outside `MEM` a fault, in a footprint in flight a fault (R92, R60, R76). -/
def hostStore (a v : HostExpr) (s : State) : Result :=
  if !inMem s.cfg (evalExpr s.hostTemps a) then .fault .hostOutsideMem
  else if writeHazard s.inFlight (evalExpr s.hostTemps a).toNat then .fault .footprintHazard
  else .next (hostNext (storeMem (evalExpr s.hostTemps a).toNat (busByte (evalExpr s.hostTemps v)) s))

/-- `LB`: load a byte into a temporary; outside `MEM` a fault, in a write footprint in flight a fault (R92, R60, R76). -/
def hostLoad (a : HostExpr) (t : Nat) (s : State) : Result :=
  if !inMem s.cfg (evalExpr s.hostTemps a) then .fault .hostOutsideMem
  else if readHazard s.inFlight (evalExpr s.hostTemps a).toNat then .fault .footprintHazard
  else .next (hostNext (setTemp t ((s.mem.read (evalExpr s.hostTemps a).toNat).toNat : Int) s))

/-- `IF cond GOTO label` (R92). -/
def hostBranch (c : HostCond) (l : Nat) (s : State) : Result :=
  if evalCond s.hostTemps c then
    match findLabel l s.hostProg with
    | some k => .next (hostJump k s)
    | none => .refused .unknownLabel
  else .next (hostNext s)

/-- The meaning of one host operation (R92). -/
def hostAct (op : HostOp) (s : State) : Result :=
  match op with
  | .write offset width v => hostWrite offset width v s
  | .read offset width t => hostRead offset width t s
  | .storeByte a v => hostStore a v s
  | .loadByte a t => hostLoad a t s
  | .assign t e => .next (hostNext (setTemp t (evalExpr s.hostTemps e) s))
  | .label _ => .next (hostNext s)
  | .ifGoto c l => hostBranch c l s

/-- One turn of the host: the operation it stands at; at the end of its program it does nothing. -/
def hostTurn (s : State) : Result :=
  match s.hostProg[s.hostPc]? with
  | some op => hostAct op s
  | none => .next s

end Sys2Proof.Machine
end

