-- ==== Sys2Proof/Machine/ResetInput.lean ====
section
/-! DEFINITION. The reset input (70_reset_and_hazards.md R240, R241). -/

namespace Sys2Proof.Machine

/-- `k` bytes drawn freely, from draw number `d` on (I11). -/
def freeBytes (d : Nat) : Nat → List Byte
  | 0 => []
  | k + 1 => Config.freeByte d :: freeBytes (d + 1) k

/-- The write footprint of the command in flight; empty when none is. -/
def abandonedSpan (s : State) : Span :=
  if s.busy then (footprint s.cfg s.latch).wf else ⟨0, 0⟩

/-- `MEM` after the reset input: unchanged, but every byte of the abandoned command's `WF` "holds an unspecified value
afterwards" (R241). -/
def scrambledMem (s : State) : Memory :=
  s.mem.writeRange (abandonedSpan s).base (freeBytes s.draws (abandonedSpan s).size)

/-- The reset input (R240): every register and the latch to 0, the command in flight abandoned, `ACC`, `CUR` and `PADCNT`
unspecified (free values); the configuration is not reset (R40), nor is the host agent, which is no part of the block. -/
def resetBlock (s : State) : State :=
  { State.resetWith s.cfg with
    mem := scrambledMem s
    acc := Config.freeAcc s.draws
    cur := (Config.freeCur s.draws).val
    padCnt := Config.freePadCnt s.draws
    draws := s.draws + (abandonedSpan s).size + 1
    sched := s.sched
    hostProg := s.hostProg
    hostPc := s.hostPc
    hostTemps := s.hostTemps }

end Sys2Proof.Machine
end

