-- ==== Sys2Proof/Machine/Turns.lean ====
section
/-! DEFINITION. Whose turn it is, where the framer takes its command from, and how a reserved word completes
(10_state.md R20, 40_primitives.md R120, 60_exceptions.md R215). -/

namespace Sys2Proof.Machine

/-- Who moves next: the head of the schedule; when it is empty, the framer if a command is in flight, else the host, so
that a command in flight completes (R251's weak fairness; notes/assumptions/7.md). -/
def nextTurn (s : State) : Turn :=
  match s.sched with
  | t :: _ => t
  | [] => if s.busy then .framer else .host

/-- The turn is taken. -/
def popTurn (s : State) : State := { s with sched := s.sched.tail }

/-- The framer's command: the latched operation, "selected by `L.W[4:0]`" (R120). -/
def fetch (s : State) : Except Reject Instr := decode s.latch.w

/-- A reserved command word completes with `EOP`: "no other check and no access" (R83, R215, R217). -/
def completeReserved (_ : Reject) (s : State) : Result := .next (finishFail .eop (beginCommand s))

end Sys2Proof.Machine
end

