-- ==== Sys2Proof/Machine/Step.lean ====
section
/-! DEFINITION. One step of the whole machine: one event of the single total order of 20_memory.md R72, by the agent whose
turn it is; and `withFetchWord`, an accepted command write. -/

namespace Sys2Proof.Machine

/-- The framer's completion step of the latched command (R120). -/
def framerStep (s : State) : Host.Outcome State Fault Refusal :=
  match fetch s with
  | .ok i => exec i s
  | .error r => completeReserved r s

/-- The framer's turn: its step is "enabled exactly when `STATUS.BUSY = 1`" (R120); otherwise nothing happens. -/
def framerTurn (s : State) : Host.Outcome State Fault Refusal :=
  if s.busy then framerStep s else .next s

/-- One step. A configuration that is not well formed is refused (00_scope.md R10). -/
def step (s : State) : Host.Outcome State Fault Refusal :=
  if s.cfg.wellFormed then
    match nextTurn s with
    | .host => hostTurn (popTurn s)
    | .framer => framerTurn (popTurn s)
    | .reset => .next (resetBlock (popTurn s))
  else .refused .configNotWellFormed

/-- The state in which the host's write of the command word was just accepted (R22: `CMD`, the latch capture, `BUSY`) and
the next turn is the framer's, so that the very next step runs exactly that command (notes/assumptions/16.md). -/
def State.withFetchWord (s : State) (nbits w : Nat) : State :=
  { acceptCommand (BitVec.ofNat 32 (w % 2 ^ nbits)) s with sched := .framer :: s.sched }

end Sys2Proof.Machine
end

