-- ==== Sys2Proof/Machine/Assembler.lean ====
section
/-! DEFINITION. The assembler (30_encoding.md R91 to R93): `W` and `R` by register name, `POLL`, and the expansion of each
form. The fresh label and temporary of `POLL` are given by the caller (notes/assumptions/22.md). -/

namespace Sys2Proof.Machine

/-- R92's `W reg, v` for a constant, the only operand a form takes (DESIGN CHOICE, notes/assumptions/22.md). -/
def opW (r : Reg) (v : Nat) : HostOp := .write (regOffset r) 4 (.lit (v : Int))

/-- R92's `R reg -> t`. -/
def opR (r : Reg) (t : Nat) : HostOp := .read (regOffset r) 4 t

/-- R92's pseudo-operation `POLL`: `p: R STATUS -> s; IF s[8] = 1 GOTO p`. -/
def poll (p s : Nat) : List HostOp :=
  [.label p, opR .status s, .ifGoto (.eq (.bits (.temp s) 8 8) (.lit 1)) p]

/-- `W SRC, src; W LEN, n` and the `FLAGS` write: "`NULL` as `src` writes `W SRC, 0` and `W FLAGS, 1`" (R93). -/
def srcValue : AsmSrc → Nat
  | .addr a => a
  | .null => 0

/-- The `FLAGS` value of a source operand (R93). -/
def nullValue : AsmSrc → Nat
  | .addr _ => 0
  | .null => 1

/-- The write of the command word, last before `POLL` (R93). -/
def opCmd (i : Instr) : HostOp := .write (regOffset .cmd) 4 (.lit ((encode i).toNat : Int))

/-- The table of R93, before `POLL`, for constant operands (DESIGN CHOICE, notes/assumptions/22.md). -/
def expandWrites : Asm → List HostOp
  | .sys d sig => [opW .dest d, opW .argA sig, opCmd .sys]
  | .cmdType d t => [opW .dest d, opW .argA t, opCmd .cmdType]
  | .cmdModes d m v => [opW .dest d, opW .argA (v <<< 8 ||| m), opCmd .cmdModes]
  | .cmdSpeed d s => [opW .dest d, opW .word0 s, opCmd .cmdSpeed]
  | .cmdSelect d m => [opW .dest d, opW .argA m, opCmd .cmdSelect]
  | .cmdWrite d s n =>
    [opW .dest d, opW .src (srcValue s), opW .len n, opW .flags (nullValue s), opCmd .cmdWrite]
  | .infoName d m s n =>
    [opW .dest d, opW .src (srcValue s), opW .len n, opW .argA m, opW .flags (nullValue s), opCmd .infoName]
  | .infoSpan d m st lo hi =>
    [opW .dest d, opW .argA (st <<< 8 ||| m), opW .word0 lo, opW .word1 hi, opCmd .infoSpan]
  | .infoSymbol d m s n =>
    [opW .dest d, opW .src (srcValue s), opW .len n, opW .argA m, opW .flags (nullValue s), opCmd .infoSymbol]
  | .infoFormat d m e t w dp =>
    [opW .dest d, opW .argA (w <<< 24 ||| t <<< 16 ||| e <<< 8 ||| m), opW .argB dp, opCmd .infoFormat]
  | .data d m s n =>
    [opW .dest d, opW .src (srcValue s), opW .len n, opW .argA m, opW .flags (nullValue s), opCmd .data]
  | .csum s n => [opW .src (srcValue s), opW .len n, opW .flags (nullValue s), opCmd .csum]
  | .log2c n => [opW .len n, opCmd .log2c]
  | .lcode n => [opW .len n, opCmd .lcode]
  | .padsz n => [opW .len n, opCmd .padsz]
  | .wpad d n => [opW .dest d, opW .len n, opCmd .wpad]

/-- The assembler: the expansion "then `POLL`" (R93), or the reason it refuses the form (R91). -/
def assemble (p s : Nat) (a : Asm) : Except AsmReject (List HostOp) :=
  match a.reject with
  | some r => .error r
  | none => .ok (expandWrites a ++ poll p s)

end Sys2Proof.Machine
end

