-- ==== Sys2Proof/Machine/Platform.lean ====
section
/-! DEFINITION. Several instances on one platform (60_exceptions.md R224, D35): each has its register block, latch, schedule and
host; "They share no state except `MEM`". A layer over `step`; the machine behind the host's interface is one instance
(notes/assumptions/17.md). -/

namespace Sys2Proof.Machine

/-- The platform: its instances, the one `MEM`, and the model's own counter of the free values that resets have drawn, one for
all instances so that no two of them draw the same (I11; notes/assumptions/5.md). An instance kept here has nothing in its own
`mem` and `draws` fields. -/
structure Platform where
  instances : List State
  mem : Memory
  draws : Nat
deriving DecidableEq, Repr

/-- The instance with the platform's `MEM` in place of its own field. -/
def attach (m : Memory) (s : State) : State := { s with mem := m }

/-- An instance about to step: the platform's `MEM` and counter in place of its own fields. -/
def Platform.lend (p : Platform) (s : State) : State := { attach p.mem s with draws := p.draws }

/-- An instance after its step, as the platform keeps it. -/
def park (s : State) : State := { attach [] s with draws := 0 }

/-- The footprints of the command an instance runs; empty when it is idle. -/
def running (s : State) : Footprint := if s.busy then footprint s.cfg s.latch else Footprint.empty

/-- Do two ranges have an address in common? -/
def Span.meets (r q : Span) : Bool :=
  decide (0 < r.size) && decide (0 < q.size) && decide (r.base < q.base + q.size) && decide (q.base < r.base + r.size)

/-- "Overlapping write footprints are a caller error ..., and so is a write footprint of one instance overlapping a read
footprint of the other" (R224). Two read footprints never clash: R224 lets instances run whose footprints are all disjoint and
names as errors only overlaps with a write footprint, so what holds for two overlapping reads is left open. DESIGN CHOICE: they
run, since an access that only reads has no side effect (R67; notes/assumptions/17.md). -/
def Footprint.clash (f g : Footprint) : Bool := f.wf.meets g.wf || f.wf.meets g.rf || f.rf.meets g.wf

/-- Does a running instance clash with one of the others? -/
def clashes (others : List State) (s : State) : Bool := others.any fun o => (running s).clash (running o)

/-- Would the step of an attached instance have its host touch a byte that a command in flight elsewhere forbids (R76)? -/
def touchesOthers (others : List State) (s : State) : Bool :=
  match step { s with inFlight := others.flatMap State.inFlight } with
  | .next _ => false
  | .fault f => decide (f = .footprintHazard)
  | .refused _ => false

/-- One `MEM_SIZE`, and register blocks apart (R61, R224). -/
def Platform.wellFormed (p : Platform) : Bool :=
  decide (p.instances.Pairwise fun s u => s.cfg.memSize = u.cfg.memSize ∧
    (s.cfg.framerBase + 64 ≤ u.cfg.framerBase ∨ u.cfg.framerBase + 64 ≤ s.cfg.framerBase))

/-- One step of instance `k` (R72: one event of the single total order over `MEM`). Overlapping footprints fault (R224,
I2). -/
def platformStep (k : Nat) (p : Platform) : Host.Outcome Platform Fault Refusal :=
  if p.wellFormed then
    match p.instances[k]? with
    | none => .next p
    | some s =>
      if touchesOthers (p.instances.eraseIdx k) (p.lend s) then .fault .footprintHazard
      else
        match step (p.lend s) with
        | .next t =>
          if clashes (p.instances.eraseIdx k) t then .fault .instanceOverlap
          else .next ⟨p.instances.set k (park t), t.mem, t.draws⟩
        | .fault f => .fault f
        | .refused r => .refused r
  else .refused .configNotWellFormed

end Sys2Proof.Machine
end

