-- ==== Sys2Proof/Safety.lean ====
section
/-! DEFINITION. The terms the statements use: the invariant of the machine, what a completion writes and keeps, what DOC
itself gives an outcome for, and the frame length a receiver reads from the tag. -/

namespace Sys2Proof.Machine

/-- The invariant every step keeps. -/
structure State.Inv (s : State) : Prop where
  /-- `MEM` is in canonical form. -/
  memCanonical : Memory.wf s.mem = true
  /-- Every byte lies in `MEM` (R60). -/
  memInside : ∀ c ∈ s.mem, c.1 < s.cfg.memSize
  /-- "A host read of `CMD` returns the last accepted word" (R22), which the latch holds (R36). -/
  cmdLatched : s.cmd = s.latch.w
  /-- `CUR` counts from 0 to at most 127 (R38). -/
  curSmall : s.cur ≤ 127
  /-- A busy command's footprints are in flight (R76). -/
  busyInFlight : s.busy = true → footprint s.cfg s.latch ∈ s.inFlight
  /-- After any completion but `OK`, `RESULT` holds −1 (R24). -/
  failedResult : s.code ≠ .ok → s.result = 0xFFFFFFFF
  /-- With `OK`, `RESULT` holds a count or a value of 0 to 255, never the sentinel (R24, D8). -/
  okResult : s.code = .ok → s.result.toNat ≤ 255
  /-- The host's temporaries are listed by rising number. -/
  tempsRising : (s.hostTemps.map Prod.fst).Pairwise (· < ·)

/-- What no completion step changes: the configuration, the host-written registers, the latch, the agents. -/
structure SameControl (s t : State) : Prop where
  cfg : t.cfg = s.cfg
  cmd : t.cmd = s.cmd
  dest : t.dest = s.dest
  src : t.src = s.src
  len : t.len = s.len
  argA : t.argA = s.argA
  argB : t.argB = s.argB
  word0 : t.word0 = s.word0
  word1 : t.word1 = s.word1
  srcNull : t.srcNull = s.srcNull
  latch : t.latch = s.latch
  inFlight : t.inFlight = s.inFlight
  draws : t.draws = s.draws
  sched : t.sched = s.sched
  hostProg : t.hostProg = s.hostProg
  hostPc : t.hostPc = s.hostPc
  hostTemps : t.hostTemps = s.hostTemps

/-- A completion with `OK` and the value `v` (R121) that changes nothing else but `MEM` and the hidden state. -/
structure CompletesOk (s t : State) (v : Nat) : Prop where
  result : t.result = BitVec.ofNat 32 v
  code : t.code = .ok
  busy : t.busy = false
  same : SameControl s t

/-- A completion by `fail c` (R217): no byte of `MEM`, `RESULT` −1, `CODE` `c`, `BUSY` 0, and nothing else but the hidden
state. -/
structure FailsWith (s t : State) (c : Code) : Prop where
  mem : t.mem = s.mem
  result : t.result = 0xFFFFFFFF
  code : t.code = c
  busy : t.busy = false
  same : SameControl s t

/-- What `MEMCHECK(nw, nr)` lets pass (R66, R214): both ranges inside `MEM`, and apart. -/
def MemFits (s : State) (nw nr : Nat) : Prop :=
  (nw > 0 → s.latch.dest.toNat + nw ≤ s.cfg.memSize) ∧
  (nr > 0 → s.latch.src.toNat + nr ≤ s.cfg.memSize) ∧
  (nw > 0 → nr > 0 →
    s.latch.dest.toNat + nw ≤ s.latch.src.toNat ∨ s.latch.src.toNat + nr ≤ s.latch.dest.toNat)

/-- The bytes `bs` stand at `base` in `m'`, and every other byte reads as in `m`. -/
def Wrote (m m' : Memory) (base : Nat) (bs : List Byte) : Prop :=
  ∀ a, Memory.read m' a =
    if base ≤ a ∧ a < base + bs.length then bs.getD (a - base) 0 else Memory.read m a

/-- `k` is "the least `k >= 0` with `2^k >= n`" (R122), said without the unit. -/
def IsClog2 (n k : Nat) : Prop := n ≤ 2 ^ k ∧ ∀ j < k, 2 ^ j < n

/-- The XOR of a list of bytes. -/
def xorAll : List Byte → Byte
  | [] => 0
  | b :: bs => b ^^^ xorAll bs

/-- The checksum of R125: `0xFF` and every byte, by XOR. -/
def csumOf (xs : List Byte) : Byte := 0xFF ^^^ xorAll xs

/-- The `n` bytes of `m` from `a` on. -/
def bytesAt (m : Memory) (a n : Nat) : List Byte := (List.range n).map fun i => Memory.read m (a + i)

/-- The source bytes of the latched command, `MEM[L.SRC ..+ L.LEN]`, byte by byte. -/
def sourceOf (s : State) : List Byte := bytesAt s.mem s.latch.src.toNat s.latch.len.toNat

/-- The bytes of a frame and their checksum last (R126). -/
def checkedFrame (xs : List Byte) : List Byte := xs ++ [csumOf xs]

/-- The eleven message encoders of DOC §4.3 (R5). -/
def encoders : List Instr :=
  [.sys, .cmdType, .cmdModes, .cmdSpeed, .cmdSelect, .cmdWrite, .infoName, .infoSpan, .infoSymbol, .infoFormat, .data]

/-- The ten encoders that end with `FRAME` (R126): all but SYS. -/
def checksummed : List Instr :=
  [.cmdType, .cmdModes, .cmdSpeed, .cmdSelect, .cmdWrite, .infoName, .infoSpan, .infoSymbol, .infoFormat, .data]

/-- The commands that read source bytes (R64). -/
def readers : List Instr := [.cmdWrite, .infoName, .infoSymbol, .data, .csum]

/-- The frame length that a tag byte tells (R90). -/
def lengthFromTag (c : Config) (t : Byte) : Nat :=
  if t &&& 0xC0 = c.sysBase then 1
  else if t &&& 0xC0 = c.infoBase then 3 + 2 ^ ((t >>> 3) &&& 7).toNat
  else 2 + 2 ^ ((t >>> 3) &&& 7).toNat

/-- DOC itself gives this completion an outcome (60_exceptions.md R211: "Only `OK` and `EINVAL` correspond to an outcome of
DOC's software"): what a claim of agreement with DOC's software assumes (I1, I3, I5, I10, I15). -/
def docDefined (c : Code) : Bool :=
  match c with
  | .ok => true
  | .einval => true
  | .eundef => false
  | .emem => false
  | .eop => false

/-- SYS sends one of the protocol's signals: what a claim that only protocol signals are sent assumes (I8). -/
def protocolSignal (s : State) : Bool := s.cfg.sysSignals.contains s.latch.sig

/-- The host operations whose effect R76 makes independent of when the completion step happens: all but the register
accesses that start or observe a command (`CMD` writes, `STATUS` and `RESULT` reads). -/
def timingFree (c : Config) : HostOp → Bool
  | .write o w _ =>
    match registerSlot c (c.framerBase + o) w with
    | .ok o' => decide (o' ≠ 0x00)
    | .error _ => true
  | .read o w _ =>
    match registerSlot c (c.framerBase + o) w with
    | .ok o' => decide (o' ≠ 0x04) && decide (o' ≠ 0x08)
    | .error _ => true
  | .storeByte _ _ => true
  | .loadByte _ _ => true
  | .assign _ _ => true
  | .label _ => true
  | .ifGoto _ _ => true

/-- The commands that write from `L.DEST` on (R64): the encoders and WPAD. -/
def writers : List Instr := encoders ++ [.wpad]

/-- No address is in a write footprint of one and in any footprint of the other (R224). -/
def FootprintsApart (f g : Footprint) : Prop :=
  ∀ a, (f.wf.has a = true → g.wf.has a = false ∧ g.rf.has a = false) ∧ (g.wf.has a = true → f.rf.has a = false)

/-- The register writes of an expansion, as the block takes them one after the other (R93). -/
def applyWrites : List HostOp → State → State
  | [], s => s
  | .write o _ (.lit v) :: rest, s => applyWrites rest (writeOffset o (busWord v) s)
  | _ :: rest, s => applyWrites rest s

/-- The operand table of R82, read from an assembler form: what the latch holds of each operand the form names, and the
command word. A form of a command that reads no source says nothing of `L.SRC`, and so on: "Every other field is ignored and
may hold any value". -/
def LatchHolds (l : Latch) : Asm → Prop
  | .sys d sig => l.w = 0x00 ∧ l.dest.toNat = d ∧ l.a0.toNat = sig
  | .cmdType d t => l.w = 0x01 ∧ l.dest.toNat = d ∧ l.a0.toNat = t
  | .cmdModes d m v => l.w = 0x02 ∧ l.dest.toNat = d ∧ l.a0.toNat = m ∧ l.a1.toNat = v
  | .cmdSpeed d sp => l.w = 0x03 ∧ l.dest.toNat = d ∧ l.w0.toNat = sp
  | .cmdSelect d m => l.w = 0x04 ∧ l.dest.toNat = d ∧ l.a0.toNat = m
  | .cmdWrite d src n =>
    l.w = 0x05 ∧ l.dest.toNat = d ∧ l.src.toNat = srcValue src ∧ l.null = decide (src = .null) ∧ l.len.toNat = n
  | .infoName d m src n =>
    l.w = 0x06 ∧ l.dest.toNat = d ∧ l.a0.toNat = m ∧ l.src.toNat = srcValue src ∧ l.null = decide (src = .null) ∧
      l.len.toNat = n
  | .infoSpan d m st lo hi =>
    l.w = 0x07 ∧ l.dest.toNat = d ∧ l.a0.toNat = m ∧ l.a1.toNat = st ∧ l.w0.toNat = lo ∧ l.w1.toNat = hi
  | .infoSymbol d m src n =>
    l.w = 0x08 ∧ l.dest.toNat = d ∧ l.a0.toNat = m ∧ l.src.toNat = srcValue src ∧ l.null = decide (src = .null) ∧
      l.len.toNat = n
  | .infoFormat d m e t w dp =>
    l.w = 0x09 ∧ l.dest.toNat = d ∧ l.a0.toNat = m ∧ l.a1.toNat = e ∧ l.a2.toNat = t ∧ l.a3.toNat = w ∧ l.a4.toNat = dp
  | .data d m src n =>
    l.w = 0x0A ∧ l.dest.toNat = d ∧ l.a0.toNat = m ∧ l.src.toNat = srcValue src ∧ l.null = decide (src = .null) ∧
      l.len.toNat = n
  | .csum src n => l.w = 0x0B ∧ l.src.toNat = srcValue src ∧ l.null = decide (src = .null) ∧ l.len.toNat = n
  | .log2c n => l.w = 0x0C ∧ l.len.toNat = n
  | .lcode n => l.w = 0x0D ∧ l.len.toNat = n
  | .padsz n => l.w = 0x0E ∧ l.len.toNat = n
  | .wpad d n => l.w = 0x0F ∧ l.dest.toNat = d ∧ l.len.toNat = n

end Sys2Proof.Machine
end

