-- ==== Sys2Proof/Certificates/Slice0/Obligations.lean ====
section
/-! DEFINITION. The statements about the machine, from the numbered rules of spec/. Where a statement reads memory it assumes
`Memory.wf`, the canonical form that `StepKeepsInvariant` keeps. "Each frame" is: the bytes written, by `Wrote` (every other
byte reads as before), and everything but `MEM`, `RESULT`, `STATUS` and the hidden state, by `SameControl`. -/

open Sys2Proof Sys2Proof.Machine

/-! ### The sixteen commands -/

/-- R150: SYS writes the one byte `SYS_BASE | A0[2:0]`, or completes with EMEM. -/
def Obligations.SysEmitsOneByte : Prop :=
  ∀ s : State, Memory.wf s.mem = true →
    decode 0x00000000 = .ok .sys ∧
    (s.latch.dest.toNat + 1 ≤ s.cfg.memSize →
      ∃ t, exec .sys s = .next t ∧ CompletesOk s t 1 ∧
        Wrote s.mem t.mem s.latch.dest.toNat [s.cfg.sysBase ||| (s.latch.a0 &&& 7)]) ∧
    (s.cfg.memSize < s.latch.dest.toNat + 1 → ∃ t, exec .sys s = .next t ∧ FailsWith s t .emem)

/-- R160: CMD.TYPE writes `[CMD_BASE | SUB_TYPE | 0x00, A0, cs]`, or completes with EMEM. -/
def Obligations.CmdTypeEmitsItsFrame : Prop :=
  ∀ s : State, Memory.wf s.mem = true →
    decode 0x00000001 = .ok .cmdType ∧
    (s.latch.dest.toNat + 3 ≤ s.cfg.memSize →
      ∃ t, exec .cmdType s = .next t ∧ CompletesOk s t 3 ∧
        Wrote s.mem t.mem s.latch.dest.toNat
          (checkedFrame [s.cfg.cmdBase ||| s.cfg.subType ||| 0x00, s.latch.a0])) ∧
    (s.cfg.memSize < s.latch.dest.toNat + 3 → ∃ t, exec .cmdType s = .next t ∧ FailsWith s t .emem)

/-- R161: CMD.MODES writes `[CMD_BASE | SUB_MODES | 0x08, A0 & 7, A1 & 7, cs]`, or completes with EMEM. -/
def Obligations.CmdModesEmitsItsFrame : Prop :=
  ∀ s : State, Memory.wf s.mem = true →
    decode 0x00000002 = .ok .cmdModes ∧
    (s.latch.dest.toNat + 4 ≤ s.cfg.memSize →
      ∃ t, exec .cmdModes s = .next t ∧ CompletesOk s t 4 ∧
        Wrote s.mem t.mem s.latch.dest.toNat
          (checkedFrame [s.cfg.cmdBase ||| s.cfg.subModes ||| 0x08, s.latch.a0 &&& 7, s.latch.a1 &&& 7])) ∧
    (s.cfg.memSize < s.latch.dest.toNat + 4 → ∃ t, exec .cmdModes s = .next t ∧ FailsWith s t .emem)

/-- R162: CMD.SPEED writes the tag with length code 0x10, the four bytes of `W0` least significant first, the checksum; or
completes with EMEM. -/
def Obligations.CmdSpeedEmitsItsFrame : Prop :=
  ∀ s : State, Memory.wf s.mem = true →
    decode 0x00000003 = .ok .cmdSpeed ∧
    (s.latch.dest.toNat + 6 ≤ s.cfg.memSize →
      ∃ t, exec .cmdSpeed s = .next t ∧ CompletesOk s t 6 ∧
        Wrote s.mem t.mem s.latch.dest.toNat
          (checkedFrame [s.cfg.cmdBase ||| s.cfg.subSpeed ||| 0x10, s.latch.w0.extractLsb' 0 8,
            s.latch.w0.extractLsb' 8 8, s.latch.w0.extractLsb' 16 8, s.latch.w0.extractLsb' 24 8])) ∧
    (s.cfg.memSize < s.latch.dest.toNat + 6 → ∃ t, exec .cmdSpeed s = .next t ∧ FailsWith s t .emem)

/-- R163: CMD.SELECT writes `[CMD_BASE | SUB_SELECT | 0x00, A0 & 7, cs]`, or completes with EMEM. -/
def Obligations.CmdSelectEmitsItsFrame : Prop :=
  ∀ s : State, Memory.wf s.mem = true →
    decode 0x00000004 = .ok .cmdSelect ∧
    (s.latch.dest.toNat + 3 ≤ s.cfg.memSize →
      ∃ t, exec .cmdSelect s = .next t ∧ CompletesOk s t 3 ∧
        Wrote s.mem t.mem s.latch.dest.toNat
          (checkedFrame [s.cfg.cmdBase ||| s.cfg.subSelect ||| 0x00, s.latch.a0 &&& 7])) ∧
    (s.cfg.memSize < s.latch.dest.toNat + 3 → ∃ t, exec .cmdSelect s = .next t ∧ FailsWith s t .emem)

/-- R164: CMD.WRITE: EINVAL outside [1,24], EUNDEF on an absent pointer, EMEM by the memory check, else the tag with
`LC(n)`, the `n` source bytes, `2^clog2(n) − n` zeros and the checksum. -/
def Obligations.CmdWriteEmitsItsFrame : Prop :=
  ∀ (s : State) (n : Nat), Memory.wf s.mem = true → s.latch.len.toNat = n →
    decode 0x00000005 = .ok .cmdWrite ∧
    (n < 1 ∨ 24 < n → ∃ t, exec .cmdWrite s = .next t ∧ FailsWith s t .einval) ∧
    (1 ≤ n → n ≤ 24 → s.latch.null = true → ∃ t, exec .cmdWrite s = .next t ∧ FailsWith s t .eundef) ∧
    ∀ k, 1 ≤ n → n ≤ 24 → s.latch.null = false → IsClog2 n k →
      (¬ MemFits s (2 + 2 ^ k) n → ∃ t, exec .cmdWrite s = .next t ∧ FailsWith s t .emem) ∧
      (MemFits s (2 + 2 ^ k) n →
        ∃ t, exec .cmdWrite s = .next t ∧ CompletesOk s t (2 + 2 ^ k) ∧
          Wrote s.mem t.mem s.latch.dest.toNat
            (checkedFrame ((s.cfg.cmdBase ||| s.cfg.subWrite ||| BitVec.ofNat 8 (k <<< 3)) ::
              (sourceOf s ++ List.replicate (2 ^ k - n) 0))))

/-- R180: INFO.NAME: EINVAL outside [1,32] or on an absent name, EMEM by the memory check, else the tag with `LC(n)`, 0x00,
the `n` name bytes, `2^clog2(n) − n` zeros and the checksum. -/
def Obligations.InfoNameEmitsItsFrame : Prop :=
  ∀ (s : State) (n : Nat), Memory.wf s.mem = true → s.latch.len.toNat = n →
    decode 0x00000006 = .ok .infoName ∧
    (n < 1 ∨ 32 < n ∨ s.latch.null = true → ∃ t, exec .infoName s = .next t ∧ FailsWith s t .einval) ∧
    ∀ k, 1 ≤ n → n ≤ 32 → s.latch.null = false → IsClog2 n k →
      (¬ MemFits s (3 + 2 ^ k) n → ∃ t, exec .infoName s = .next t ∧ FailsWith s t .emem) ∧
      (MemFits s (3 + 2 ^ k) n →
        ∃ t, exec .infoName s = .next t ∧ CompletesOk s t (3 + 2 ^ k) ∧
          Wrote s.mem t.mem s.latch.dest.toNat
            (checkedFrame ((s.cfg.infoBase ||| (s.latch.a0 &&& 7) ||| BitVec.ofNat 8 (k <<< 3)) :: 0x00 ::
              (sourceOf s ++ List.replicate (2 ^ k - n) 0))))

/-- R181: INFO.SPAN writes the tag with length code 0x18, the span type, `W0` and `W1` as little-endian bit patterns and the
checksum; or completes with EMEM. -/
def Obligations.InfoSpanEmitsItsFrame : Prop :=
  ∀ s : State, Memory.wf s.mem = true →
    decode 0x00000007 = .ok .infoSpan ∧
    (s.latch.dest.toNat + 11 ≤ s.cfg.memSize →
      ∃ t, exec .infoSpan s = .next t ∧ CompletesOk s t 11 ∧
        Wrote s.mem t.mem s.latch.dest.toNat
          (checkedFrame [s.cfg.infoBase ||| (s.latch.a0 &&& 7) ||| 0x18, s.latch.a1,
            s.latch.w0.extractLsb' 0 8, s.latch.w0.extractLsb' 8 8, s.latch.w0.extractLsb' 16 8,
            s.latch.w0.extractLsb' 24 8, s.latch.w1.extractLsb' 0 8, s.latch.w1.extractLsb' 8 8,
            s.latch.w1.extractLsb' 16 8, s.latch.w1.extractLsb' 24 8])) ∧
    (s.cfg.memSize < s.latch.dest.toNat + 11 → ∃ t, exec .infoSpan s = .next t ∧ FailsWith s t .emem)

/-- R182: INFO.SYMBOL: EINVAL outside [1,8] or on an absent symbol, EMEM by the memory check, else always length code 0x18,
0x04, the `n` symbol bytes, the flat `8 − n` zeros and the checksum. -/
def Obligations.InfoSymbolEmitsItsFrame : Prop :=
  ∀ (s : State) (n : Nat), Memory.wf s.mem = true → s.latch.len.toNat = n →
    decode 0x00000008 = .ok .infoSymbol ∧
    (n < 1 ∨ 8 < n ∨ s.latch.null = true → ∃ t, exec .infoSymbol s = .next t ∧ FailsWith s t .einval) ∧
    (1 ≤ n → n ≤ 8 → s.latch.null = false →
      (¬ MemFits s 11 n → ∃ t, exec .infoSymbol s = .next t ∧ FailsWith s t .emem) ∧
      (MemFits s 11 n →
        ∃ t, exec .infoSymbol s = .next t ∧ CompletesOk s t 11 ∧
          Wrote s.mem t.mem s.latch.dest.toNat
            (checkedFrame ((s.cfg.infoBase ||| (s.latch.a0 &&& 7) ||| 0x18) :: 0x04 ::
              (sourceOf s ++ List.replicate (8 - n) 0)))))

/-- R183: INFO.FORMAT writes the tag with length code 0x10, 0x80, the four masked fields and the checksum; or completes with
EMEM. -/
def Obligations.InfoFormatEmitsItsFrame : Prop :=
  ∀ s : State, Memory.wf s.mem = true →
    decode 0x00000009 = .ok .infoFormat ∧
    (s.latch.dest.toNat + 7 ≤ s.cfg.memSize →
      ∃ t, exec .infoFormat s = .next t ∧ CompletesOk s t 7 ∧
        Wrote s.mem t.mem s.latch.dest.toNat
          (checkedFrame [s.cfg.infoBase ||| (s.latch.a0 &&& 7) ||| 0x10, 0x80, s.latch.a1 &&& 0x3F,
            s.latch.a2 &&& 0x03, s.latch.a3 &&& 0x0F, s.latch.a4 &&& 0x0F])) ∧
    (s.cfg.memSize < s.latch.dest.toNat + 7 → ∃ t, exec .infoFormat s = .next t ∧ FailsWith s t .emem)

/-- R200: DATA: EINVAL outside [1,32], EUNDEF on an absent pointer, EMEM by the memory check, else the tag with `LC(n)`, the
`n` source bytes, `2^clog2(n) − n` zeros and the checksum. -/
def Obligations.DataEmitsItsFrame : Prop :=
  ∀ (s : State) (n : Nat), Memory.wf s.mem = true → s.latch.len.toNat = n →
    decode 0x0000000A = .ok .data ∧
    (n < 1 ∨ 32 < n → ∃ t, exec .data s = .next t ∧ FailsWith s t .einval) ∧
    (1 ≤ n → n ≤ 32 → s.latch.null = true → ∃ t, exec .data s = .next t ∧ FailsWith s t .eundef) ∧
    ∀ k, 1 ≤ n → n ≤ 32 → s.latch.null = false → IsClog2 n k →
      (¬ MemFits s (2 + 2 ^ k) n → ∃ t, exec .data s = .next t ∧ FailsWith s t .emem) ∧
      (MemFits s (2 + 2 ^ k) n →
        ∃ t, exec .data s = .next t ∧ CompletesOk s t (2 + 2 ^ k) ∧
          Wrote s.mem t.mem s.latch.dest.toNat
            (checkedFrame ((s.cfg.dataBase ||| (s.latch.a0 &&& 7) ||| BitVec.ofNat 8 (k <<< 3)) ::
              (sourceOf s ++ List.replicate (2 ^ k - n) 0))))

/-- R130: CSUM of 0 bytes is 0xFF whatever `L.SRC` and `L.NULL` hold; of `n > 0` bytes EUNDEF on an absent pointer, EMEM past
the end of `MEM`, else the XOR of 0xFF with every byte. No byte of `MEM` is written. -/
def Obligations.CsumYieldsTheChecksum : Prop :=
  ∀ (s : State) (n : Nat), s.latch.len.toNat = n →
    decode 0x0000000B = .ok .csum ∧
    (n = 0 → ∃ t, exec .csum s = .next t ∧ CompletesOk s t 0xFF ∧ t.mem = s.mem) ∧
    (0 < n → s.latch.null = true → ∃ t, exec .csum s = .next t ∧ FailsWith s t .eundef) ∧
    (0 < n → s.latch.null = false → s.cfg.memSize < s.latch.src.toNat + n →
      ∃ t, exec .csum s = .next t ∧ FailsWith s t .emem) ∧
    (0 < n → s.latch.null = false → s.latch.src.toNat + n ≤ s.cfg.memSize →
      ∃ t, exec .csum s = .next t ∧ CompletesOk s t (csumOf (sourceOf s)).toNat ∧ t.mem = s.mem)

/-- R131: LOG2C yields the least `k` with `2^k >= n`, EUNDEF for 0. No byte of `MEM` is written. -/
def Obligations.Log2cYieldsTheCeilingLog : Prop :=
  ∀ (s : State) (n : Nat), s.latch.len.toNat = n →
    decode 0x0000000C = .ok .log2c ∧
    (n = 0 → ∃ t, exec .log2c s = .next t ∧ FailsWith s t .eundef) ∧
    ∀ k, 0 < n → IsClog2 n k → ∃ t, exec .log2c s = .next t ∧ CompletesOk s t k ∧ t.mem = s.mem

/-- R132: LCODE yields `clog2(n) << 3`, EUNDEF for 0. No byte of `MEM` is written. -/
def Obligations.LcodeYieldsTheLengthCode : Prop :=
  ∀ (s : State) (n : Nat), s.latch.len.toNat = n →
    decode 0x0000000D = .ok .lcode ∧
    (n = 0 → ∃ t, exec .lcode s = .next t ∧ FailsWith s t .eundef) ∧
    ∀ k, 0 < n → IsClog2 n k → ∃ t, exec .lcode s = .next t ∧ CompletesOk s t (k <<< 3) ∧ t.mem = s.mem

/-- R133: PADSZ yields `2^clog2(n) − n`, EUNDEF for 0. No byte of `MEM` is written. -/
def Obligations.PadszYieldsThePadding : Prop :=
  ∀ (s : State) (n : Nat), s.latch.len.toNat = n →
    decode 0x0000000E = .ok .padsz ∧
    (n = 0 → ∃ t, exec .padsz s = .next t ∧ FailsWith s t .eundef) ∧
    ∀ k, 0 < n → IsClog2 n k → ∃ t, exec .padsz s = .next t ∧ CompletesOk s t (2 ^ k - n) ∧ t.mem = s.mem

/-- R134: WPAD writes `2^clog2(n) − n` zero bytes past the checksum engine and yields their number; EUNDEF for 0; EMEM if there
are any and they leave `MEM`. -/
def Obligations.WpadWritesThePadding : Prop :=
  ∀ (s : State) (n : Nat), Memory.wf s.mem = true → s.latch.len.toNat = n →
    decode 0x0000000F = .ok .wpad ∧
    (n = 0 → ∃ t, exec .wpad s = .next t ∧ FailsWith s t .eundef) ∧
    ∀ k, 0 < n → IsClog2 n k →
      (2 ^ k - n > 0 → s.cfg.memSize < s.latch.dest.toNat + (2 ^ k - n) →
        ∃ t, exec .wpad s = .next t ∧ FailsWith s t .emem) ∧
      (2 ^ k - n = 0 ∨ s.latch.dest.toNat + (2 ^ k - n) ≤ s.cfg.memSize →
        ∃ t, exec .wpad s = .next t ∧ CompletesOk s t (2 ^ k - n) ∧ t.acc = s.acc ∧
          Wrote s.mem t.mem s.latch.dest.toNat (List.replicate (2 ^ k - n) 0))

/-! ### All commands together -/

/-- R120, R121, R217, R218: a completion step always exists, clears `BUSY`, leaves the control state alone, and is all or
nothing: `OK`, or no byte written and −1. -/
def Obligations.EveryCompletionIsPrecise : Prop :=
  ∀ (i : Instr) (s : State), ∃ t, exec i s = .next t ∧ t.busy = false ∧ SameControl s t ∧
    (t.code = .ok ∨ (t.mem = s.mem ∧ t.result = 0xFFFFFFFF))

/-- R24, R64, R74 (95_test_vectors.md section 3): a writer that completes with `OK` changes no byte outside `[L.DEST,
L.DEST + RESULT)`, an encoder's `RESULT` is 1 to 35 (R89), and any other command changes no byte. -/
def Obligations.OkWritesOnlyTheResultRange : Prop :=
  ∀ (i : Instr) (s t : State), Memory.wf s.mem = true → exec i s = .next t → t.code = .ok →
    (i ∈ writers → ∀ a, (a < s.latch.dest.toNat ∨ s.latch.dest.toNat + t.result.toNat ≤ a) →
      Memory.read t.mem a = Memory.read s.mem a) ∧
    (i ∈ encoders → 1 ≤ t.result.toNat ∧ t.result.toNat ≤ 35) ∧
    (i ∉ writers → t.mem = s.mem)

/-- R74: the footprints the host can compute beforehand are what the command does: empty when it fails; else `WF` starts at
`L.DEST` and holds `RESULT` bytes for a writer and none for another command, and `RF` is the source range of a reader. A
reserved word, which completes with EOP, has both empty. -/
def Obligations.FootprintIsWhatTheCommandTouches : Prop :=
  (∀ (r : Reject) (s : State), decode s.latch.w = .error r →
    (footprint s.cfg s.latch).wf.size = 0 ∧ (footprint s.cfg s.latch).rf.size = 0) ∧
  ∀ (i : Instr) (s t : State), decode s.latch.w = .ok i → exec i s = .next t →
    (t.code ≠ .ok → (footprint s.cfg s.latch).wf.size = 0 ∧ (footprint s.cfg s.latch).rf.size = 0) ∧
    (t.code = .ok →
      (footprint s.cfg s.latch).wf = ⟨s.latch.dest.toNat, if i ∈ writers then t.result.toNat else 0⟩ ∧
      (footprint s.cfg s.latch).rf = ⟨s.latch.src.toNat, if i ∈ readers then s.latch.len.toNat else 0⟩)

/-- R78, R250: no address is in both footprints of a command: it "can never read a byte that the same command writes". -/
def Obligations.FootprintsNeverOverlap : Prop :=
  ∀ (c : Config) (l : Latch) (a : Nat),
    ¬ ((footprint c l).wf.has a = true ∧ (footprint c l).rf.has a = true)

/-- R44: the outcome depends only on the latch, the configuration and the source bytes: two states that agree on those give
the same code, the same `RESULT` and the same bytes at `L.DEST`, whatever else they hold. -/
def Obligations.OutcomeDependsOnlyOnLatchAndSource : Prop :=
  ∀ (i : Instr) (s u s' u' : State), Memory.wf s.mem = true → Memory.wf u.mem = true →
    s.cfg = u.cfg → s.latch = u.latch → (i ∈ readers → sourceOf s = sourceOf u) →
    exec i s = .next s' → exec i u = .next u' →
    s'.code = u'.code ∧ s'.result = u'.result ∧
      (i ∈ writers → s'.code = .ok →
        bytesAt s'.mem s.latch.dest.toNat s'.result.toNat = bytesAt u'.mem u.latch.dest.toNat u'.result.toNat)

/-- R44 (95_test_vectors.md S11): the same message encoded to two destinations yields the same bytes and count. -/
def Obligations.SameMessageSameBytesAnywhere : Prop :=
  ∀ (i : Instr) (s u s' u' : State), Memory.wf s.mem = true → Memory.wf u.mem = true →
    s.cfg = u.cfg → u.latch = { s.latch with dest := u.latch.dest } →
    (i ∈ readers → sourceOf s = sourceOf u) →
    exec i s = .next s' → exec i u = .next u' → s'.code = .ok → u'.code = .ok →
    s'.result = u'.result ∧
      (i ∈ writers →
        bytesAt s'.mem s.latch.dest.toNat s'.result.toNat = bytesAt u'.mem u.latch.dest.toNat u'.result.toNat)

/-- R128: the XOR of all bytes of a checksummed frame is 0xFF. -/
def Obligations.FrameBytesXorToSeed : Prop :=
  ∀ (i : Instr) (s t : State), i ∈ checksummed → Memory.wf s.mem = true → exec i s = .next t → t.code = .ok →
    xorAll (bytesAt t.mem s.latch.dest.toNat t.result.toNat) = 0xFF

/-- 95_test_vectors.md P3, from R125 and R128: the CSUM command over a frame just written, its checksum included, yields 0. -/
def Obligations.CsumOfAWholeFrameIsZero : Prop :=
  ∀ (i : Instr) (s t u : State), i ∈ checksummed → Memory.wf s.mem = true → exec i s = .next t → t.code = .ok →
    u.mem = t.mem → u.cfg = t.cfg → u.latch.src = s.latch.dest → u.latch.len.toNat = t.result.toNat →
    u.latch.null = false →
    ∃ v, exec .csum u = .next v ∧ v.code = .ok ∧ v.result = 0

/-- R90: under a well-formed configuration the tag byte alone tells the length of every frame. -/
def Obligations.TagTellsTheFrameLength : Prop :=
  ∀ (i : Instr) (s t : State), i ∈ encoders → s.cfg.wellFormed = true → Memory.wf s.mem = true →
    exec i s = .next t → t.code = .ok →
    lengthFromTag s.cfg (Memory.read t.mem s.latch.dest.toNat) = t.result.toNat

/-- R85: under a well-formed configuration the base stands in bits [7:6] of the tag, the length code in [5:3] and the
sub-field in [2:0]. -/
def Obligations.TagFieldsAreDisjoint : Prop :=
  ∀ (c : Config) (base sub : Byte) (n k : Nat), c.wellFormed = true →
    base ∈ [c.sysBase, c.cmdBase, c.infoBase, c.dataBase] → sub ≤ 7 → 1 ≤ n → n ≤ 32 → IsClog2 n k →
    tag base sub n &&& 0xC0 = base ∧ ((tag base sub n >>> 3) &&& 7).toNat = k ∧ tag base sub n &&& 7 = sub

/-- R128 with R122: for every length the padded length is a power of two, the padding is below the length, and it is 0
exactly for a power of two. -/
def Obligations.PaddingLaws : Prop :=
  ∀ n : Nat, 1 ≤ n → n ≤ 255 →
    IsClog2 n (clog2 n) ∧ clog2 n ≤ 8 ∧ padCount n + n = 2 ^ clog2 n ∧ padCount n ≤ n - 1 ∧
      (padCount n = 0 ↔ ∃ k, n = 2 ^ k)

/-- The hidden state after a completion. From R37 to R39; the model's reading of when each is touched is DEDUCED
(notes/assumptions/6.md): the checksum is what `ACC` holds, `CUR` is the number of bytes written, `PADCNT` has run down. -/
def Obligations.HiddenStateAfterCompletion : Prop :=
  ∀ (i : Instr) (s t : State), Memory.wf s.mem = true → exec i s = .next t →
    (t.code ≠ .ok → t.acc = s.acc ∧ t.cur = 0 ∧ t.padCnt = s.padCnt) ∧
    (t.code = .ok →
      (i ∈ checksummed →
        t.acc = Memory.read t.mem (s.latch.dest.toNat + t.result.toNat - 1) ∧ t.cur = t.result.toNat ∧ t.padCnt = 0) ∧
      (i = .sys ∨ i = .wpad → t.acc = s.acc ∧ t.cur = t.result.toNat ∧ t.padCnt = 0) ∧
      (i = .csum → t.acc.toNat = t.result.toNat ∧ t.cur = 0 ∧ t.padCnt = s.padCnt) ∧
      (i = .log2c ∨ i = .lcode ∨ i = .padsz → t.acc = s.acc ∧ t.cur = 0 ∧ t.padCnt = s.padCnt))

/-! ### Encoding -/

/-- R80, R81: each of the sixteen words means its command, and no other word means one. -/
def Obligations.DecodeReadsExactlyTheEncodings : Prop :=
  ∀ (w : Word) (i : Instr), decode w = .ok i ↔ w = encode i

/-- R83: a word is reserved exactly when `OP` is 0x10 to 0x1F or `RSV` is not zero. -/
def Obligations.ReservedWordsAreRejected : Prop :=
  ∀ w : Word, (∃ r, decode w = .error r) ↔ (w.extractLsb' 4 1 = 1#1 ∨ w.extractLsb' 5 27 ≠ 0#27)

/-- A few words of R81's map, written out, decode to what they stand for. -/
def Obligations.DecodeOfWrittenOutWords : Prop :=
  decode 0b00000000000000000000000000000000 = .ok .sys ∧
  decode 0b00000000000000000000000000000101 = .ok .cmdWrite ∧
  decode 0b00000000000000000000000000001000 = .ok .infoSymbol ∧
  decode 0b00000000000000000000000000001010 = .ok .data ∧
  decode 0b00000000000000000000000000001111 = .ok .wpad ∧
  decode 0b00000000000000000000000000010000 = .error .opReserved ∧
  decode 0b00000000000000000000000000100000 = .error .rsvNonzero

/-- R91, R93: the writes of a form that the assembler accepts, taken by an idle block, start the form's command with every
operand it reads in the latch, so that "the command never depends on a stale register". -/
def Obligations.AssembledOperandsReachTheLatch : Prop :=
  ∀ (a : Asm) (s : State), a.wellFormed = true → s.busy = false →
    (applyWrites (expandWrites a) s).busy = true ∧ LatchHolds (applyWrites (expandWrites a) s).latch a

/-! ### The step -/

/-- R120: in the framer's turn a busy block's step is the meaning of the latched command, the turn taken. That an empty schedule
gives the framer the turn of a busy block is the model's choice (notes/assumptions/7.md). -/
def Obligations.StepRunsTheLatchedCommand : Prop :=
  ∀ (s : State) (i : Instr), s.cfg.wellFormed = true → s.busy = true →
    (s.sched = [] ∨ s.sched.head? = some .framer) → decode s.latch.w = .ok i →
    step s = exec i { s with sched := s.sched.tail }

/-- From R83, R215 and R217: a reserved word completes with EOP, in the framer's turn. That an empty schedule gives the framer
the turn of a busy block is the model's choice (notes/assumptions/7.md). -/
def Obligations.ReservedWordCompletesWithEop : Prop :=
  ∀ s : State, s.cfg.wellFormed = true → s.busy = true → (s.sched = [] ∨ s.sched.head? = some .framer) →
    (s.latch.w.toNat % 32 ≥ 0x10 ∨ s.latch.w.toNat / 32 ≠ 0) →
    ∃ t, step s = .next t ∧ FailsWith { s with sched := s.sched.tail } t .eop

/-- R20, R120, R226: the framer's step is enabled only when `BUSY = 1`; otherwise its turn changes nothing but the schedule
(the model's choice, notes/assumptions/7.md). -/
def Obligations.IdleFramerDoesNothing : Prop :=
  ∀ s : State, s.cfg.wellFormed = true → s.busy = false → s.sched.head? = some .framer →
    step s = .next { s with sched := s.sched.tail }

/-- R10: a configuration that breaks one of the four conditions is refused. -/
def Obligations.IllFormedConfigurationIsRefused : Prop :=
  ∀ s : State,
    ((s.cfg.sysBase ||| s.cfg.cmdBase ||| s.cfg.infoBase ||| s.cfg.dataBase) &&& 0x3F ≠ 0 ∨
      ¬ [s.cfg.sysBase, s.cfg.cmdBase, s.cfg.infoBase, s.cfg.dataBase].Nodup ∨
      (∃ v ∈ s.cfg.subs ++ s.cfg.sysSignals, 7 < v) ∨ ¬ s.cfg.subs.Nodup) →
    step s = .refused .configNotWellFormed

/-- R210: the block never traps: a step that stops is the host's, and no framer or reset turn of a well-formed
configuration stops. -/
def Obligations.OnlyTheHostCanStop : Prop :=
  ∀ s : State, s.cfg.wellFormed = true → (∀ t, step s ≠ .next t) → nextTurn s = .host

/-- R251: "Once the framer's completion step is enabled, it stays enabled until it is taken or until a reset": a host turn
keeps `BUSY` and the latch, and with nothing scheduled the very next step completes the command (the model's choice of fair
schedule, notes/assumptions/7.md). -/
def Obligations.CommandStaysEnabledUntilTaken : Prop :=
  ∀ s : State, s.cfg.wellFormed = true → s.busy = true →
    (∀ t, nextTurn s = .host → step s = .next t → t.busy = true ∧ t.latch = s.latch) ∧
    (s.sched = [] → ∃ t, step s = .next t ∧ t.busy = false)

/-- R23, R24: `CODE` and `RESULT` change only at a completion step and at reset, so a host turn keeps them. That it keeps the
hidden state as well is the model's reading (DEDUCED, notes/assumptions/6.md): R22 lists what an accepted `CMD` write performs
(`CMD`, the latch capture, `BUSY`) and R67 gives no other register access a side effect, so the model sets `CUR` to 0 in the
completion step, where R38's "at the start of each command" could also be read as the accepted `CMD` write (R20). -/
def Obligations.HostTurnKeepsOutcomeRegisters : Prop :=
  ∀ s t : State, nextTurn s = .host → step s = .next t →
    t.code = s.code ∧ t.result = s.result ∧ t.acc = s.acc ∧ t.cur = s.cur ∧ t.padCnt = s.padCnt

/-- R40: "Neither the host nor the framer writes it, and reset does not change it." -/
def Obligations.StepKeepsTheConfiguration : Prop :=
  ∀ s t : State, step s = .next t → t.cfg = s.cfg

/-- The invariant (`State.Inv`): canonical memory inside `MEM`, `CMD` the latched word (R22, R36), `CUR` at most 127 (R38), a
busy command's footprints in flight (R76), `RESULT` and `CODE` in agreement (R24). Every step keeps it, whoever moves. The record
of flights and the canonical form are the model's own (notes/assumptions/14.md and 2.md). -/
def Obligations.StepKeepsInvariant : Prop :=
  ∀ s t : State, s.Inv → step s = .next t → t.Inv

/-- The state after reset has the invariant, under every configuration. Rests on the model's choice of `CUR` and of an empty
memory list (notes/assumptions/2.md and 3.md). -/
def Obligations.ResetHasInvariant : Prop :=
  ∀ c : Config, (State.resetWith c).Inv

/-! ### Registers -/

/-- R21, R45: after reset every register reads 0, `BUSY` is 0 and `CODE` is `OK`, and the latch is all 0. -/
def Obligations.ResetValuesOfRegisters : Prop :=
  ∀ (c : Config) (r : Reg), readReg r (State.resetWith c) = 0 ∧ (State.resetWith c).busy = false ∧
    (State.resetWith c).code = .ok ∧ (State.resetWith c).latch = Latch.zero

/-- R22, R36: a write of `w` to `CMD` while `BUSY = 0` stores it, captures the latch from the operand registers and sets
`BUSY`; nothing else of the block changes. -/
def Obligations.AcceptedCmdWriteCapturesTheLatch : Prop :=
  ∀ (s : State) (w : Word), s.busy = false →
    ∃ fs, hostAct (.write 0x00 4 (.lit (w.toNat : Int))) s = .next { s with
      cmd := w
      busy := true
      latch :=
        { w := w, dest := s.dest, src := s.src, len := s.len,
          a0 := s.argA.extractLsb' 0 8, a1 := s.argA.extractLsb' 8 8,
          a2 := s.argA.extractLsb' 16 8, a3 := s.argA.extractLsb' 24 8,
          a4 := s.argB, w0 := s.word0, w1 := s.word1, null := s.srcNull }
      inFlight := fs
      hostPc := s.hostPc + 1 }

/-- R248: a write to `CMD` while `BUSY = 1` "changes no register, no latch field and no byte". -/
def Obligations.BusyCmdWriteIsIgnored : Prop :=
  ∀ (s : State) (v : HostExpr), s.busy = true →
    hostAct (.write 0x00 4 v) s = .next { s with hostPc := s.hostPc + 1 }

/-- R27, R29, R32, R34, R35: a write to an operand register takes effect at once, whatever `BUSY` is, keeps the register's
defined bits only, and changes nothing else: not the latch, not the running command. -/
def Obligations.OperandWritesKeepTheirDefinedBits : Prop :=
  ∀ (s : State) (v : Word),
    let w (o : Nat) := hostAct (.write o 4 (.lit (v.toNat : Int))) s
    w 0x0C = .next { s with dest := v, hostPc := s.hostPc + 1 } ∧
    w 0x10 = .next { s with src := v, hostPc := s.hostPc + 1 } ∧
    w 0x14 = .next { s with len := v.extractLsb' 0 8, hostPc := s.hostPc + 1 } ∧
    w 0x18 = .next { s with argA := v, hostPc := s.hostPc + 1 } ∧
    w 0x1C = .next { s with argB := v.extractLsb' 0 8, hostPc := s.hostPc + 1 } ∧
    w 0x20 = .next { s with word0 := v, hostPc := s.hostPc + 1 } ∧
    w 0x24 = .next { s with word1 := v, hostPc := s.hostPc + 1 } ∧
    w 0x28 = .next { s with srcNull := v.getLsbD 0, hostPc := s.hostPc + 1 }

/-- R23, R24, R33: host writes to `STATUS`, to `RESULT` and to the unmapped offsets are ignored. -/
def Obligations.ReadOnlyAndUnmappedWritesAreIgnored : Prop :=
  ∀ (s : State) (v : HostExpr) (o : Nat), o ∈ [0x04, 0x08, 0x2C, 0x30, 0x34, 0x38, 0x3C] →
    hostAct (.write o 4 v) s = .next { s with hostPc := s.hostPc + 1 }

/-- R21 to R33: what a host read of each offset puts in its temporary; reserved bits and unmapped offsets read as 0, and the
read changes nothing else of the block and no other temporary (R67). Of the model's own fields the record of flights changes, by
a `STATUS` read that returns `BUSY = 0` and by no other read (R76; notes/assumptions/14.md). -/
def Obligations.RegisterReadsReturnTheFields : Prop :=
  ∀ (s : State) (x : Nat) (o : Nat) (v : Nat),
    (o, v) ∈ [(0x00, s.cmd.toNat), (0x04, (codeBits s.code).toNat + if s.busy then 256 else 0), (0x08, s.result.toNat),
      (0x0C, s.dest.toNat), (0x10, s.src.toNat), (0x14, s.len.toNat), (0x18, s.argA.toNat), (0x1C, s.argB.toNat),
      (0x20, s.word0.toNat), (0x24, s.word1.toNat), (0x28, if s.srcNull then 1 else 0),
      (0x2C, 0), (0x30, 0), (0x34, 0), (0x38, 0), (0x3C, 0)] →
    hostAct (.read o 4 x) s = .next { s with
      inFlight := if o = 0x04 ∧ s.busy = false then [] else s.inFlight
      hostTemps := writeTemp s.hostTemps x v
      hostPc := s.hostPc + 1 } ∧
    readTemp (writeTemp s.hostTemps x v) x = (v : Int) ∧
    ∀ y, y ≠ x → readTemp (writeTemp s.hostTemps x v) y = readTemp s.hostTemps y

/-- R68: a register access that is not 32 bits wide, or at an offset that is not a multiple of 4, is refused. -/
def Obligations.UnsupportedRegisterAccessIsRefused : Prop :=
  ∀ (s : State) (o w x : Nat) (v : HostExpr), o < 64 → (w ≠ 4 ∨ o % 4 ≠ 0) →
    ∃ r, hostAct (.write o w v) s = .refused r ∧ hostAct (.read o w x) s = .refused r

/-! ### Host and framer -/

/-- R76: while a command is in flight the host's store to a byte of its `RF` or `WF`, or load of a byte of its `WF`, is a
fault; and a command in flight stays so through its completion. -/
def Obligations.FootprintAccessFaults : Prop :=
  ∀ (s : State) (f : Footprint) (a x : Nat) (v : HostExpr), f ∈ s.inFlight → a < s.cfg.memSize →
    (f.wf.has a = true ∨ f.rf.has a = true → hostAct (.storeByte (.lit (a : Int)) v) s = .fault .footprintHazard) ∧
    (f.wf.has a = true → hostAct (.loadByte (.lit (a : Int)) x) s = .fault .footprintHazard) ∧
    (∀ t, framerStep s = .next t → f ∈ t.inFlight)

/-- R72, R92: outside every footprint in flight a store writes its byte and nothing else, and a load puts the byte in its
temporary and changes no other temporary and nothing else. -/
def Obligations.HostByteAccessesOutsideFootprints : Prop :=
  ∀ (s : State) (a x : Nat) (b : Byte), Memory.wf s.mem = true → a < s.cfg.memSize →
    (∀ f ∈ s.inFlight, f.wf.has a = false) →
    (∃ temps, hostAct (.loadByte (.lit (a : Int)) x) s = .next { s with hostTemps := temps, hostPc := s.hostPc + 1 } ∧
      readTemp temps x = ((Memory.read s.mem a).toNat : Int) ∧
      ∀ y, y ≠ x → readTemp temps y = readTemp s.hostTemps y) ∧
    ((∀ f ∈ s.inFlight, f.rf.has a = false) →
      ∃ m, hostAct (.storeByte (.lit (a : Int)) (.lit (b.toNat : Int))) s =
          .next { s with mem := m, hostPc := s.hostPc + 1 } ∧ Wrote s.mem m a [b])

/-- R75, R76: a `STATUS` read that returns `BUSY = 0` ends the flight of every command (DEDUCED, notes/assumptions/14.md); one
that returns `BUSY = 1` ends none. -/
def Obligations.StatusReadEndsTheFlight : Prop :=
  ∀ (s t : State) (x : Nat), hostAct (.read 0x04 4 x) s = .next t →
    (s.busy = false → t.inFlight = []) ∧ (s.busy = true → t.inFlight = s.inFlight)

/-- R76: "the outcome of a program does not depend on when the framer's completion step happens": a host operation that
respects the footprints and neither starts nor observes a command may be taken before the completion or after it, with the
same state in the end. -/
def Obligations.CompletionCommutesWithTheHost : Prop :=
  ∀ (s s1 : State) (op : HostOp), s.Inv → s.busy = true → timingFree s.cfg op = true → hostAct op s = .next s1 →
    ∃ s2 s3, framerStep s = .next s2 ∧ hostAct op s2 = .next s3 ∧ framerStep s1 = .next s3

/-! ### Several instances -/

/-- R224, in the platform layer of notes/assumptions/17.md: a step of one instance changes no other instance; and
where two of them then run at once, their footprints are apart. -/
def Obligations.InstancesShareOnlyMemory : Prop :=
  ∀ (p q : Platform) (k j : Nat) (s u : State), platformStep k p = .next q → j ≠ k →
    q.instances[j]? = p.instances[j]? ∧
    (q.instances[k]? = some s → q.instances[j]? = some u → s.busy = true → u.busy = true →
      FootprintsApart (footprint s.cfg s.latch) (footprint u.cfg u.latch))

/-- R224: two instances whose footprints are apart may run at once: whichever completes first, `MEM` and the registers of both
end the same. -/
def Obligations.CompletionsOfInstancesCommute : Prop :=
  ∀ s u : State, Memory.wf s.mem = true → u.mem = s.mem →
    FootprintsApart (footprint s.cfg s.latch) (footprint u.cfg u.latch) →
    ∃ s1 u1 m, framerStep s = .next s1 ∧ framerStep u = .next u1 ∧
      framerStep (attach s1.mem u) = .next (attach m u1) ∧ framerStep (attach u1.mem s) = .next (attach m s1)

/-! ### Reset -/

/-- R240: the reset input sets every register to 0 and clears the latch, so the command in flight is abandoned: `BUSY` is 0,
and nothing is in flight (notes/assumptions/14.md). -/
def Obligations.ResetInputClearsTheBlock : Prop :=
  ∀ s : State, s.cfg.wellFormed = true → s.sched.head? = some .reset →
    ∃ t, step s = .next t ∧ (∀ r, readReg r t = 0) ∧ t.busy = false ∧ t.code = .ok ∧ t.latch = Latch.zero ∧
      t.cfg = s.cfg ∧ t.inFlight = []

/-- R241: reset writes no byte of `MEM` but those of the write footprint of the command it abandons. -/
def Obligations.ResetSparesMemory : Prop :=
  ∀ s t : State, s.cfg.wellFormed = true → Memory.wf s.mem = true → s.sched.head? = some .reset → step s = .next t →
    (s.busy = false → t.mem = s.mem) ∧
    (s.busy = true → ∀ a, (footprint s.cfg s.latch).wf.has a = false → Memory.read t.mem a = Memory.read s.mem a)

/-- R244: "`CMD = 0` after reset writes `SYS_BASE | 0` at address 0", under every well-formed configuration. `withFetchWord`
stands for the host's accepted write (notes/assumptions/16.md). -/
def Obligations.FirstCommandAfterResetIsSys : Prop :=
  ∀ c : Config, c.wellFormed = true →
    ∃ t, step ((State.resetWith c).withFetchWord 32 0) = .next t ∧ t.result = 1 ∧ t.code = .ok ∧ t.busy = false ∧
      Memory.read t.mem 0 = c.sysBase
end

