-- ==== Sys2Proof/Laws/Memory.lean ====
section
/-! SUPPORT. The laws of `MEM`: a read after a write, the canonical form and its extensionality, ranges. -/

namespace Sys2Proof.Machine

@[simp] theorem Memory.read_nil (a : Nat) : Memory.read [] a = Memory.unlisted := rfl

theorem Memory.read_cons (c : Host.Cell) (m : Memory) (a : Nat) :
    Memory.read (c :: m) a = if a = c.1 then c.2 else Memory.read m a := rfl

/-- The canonical form, said of all cells at once. -/
theorem Memory.wf_iff (m : Memory) :
    Memory.wf m = true ↔ m.Pairwise (fun c d => c.1 < d.1) ∧ ∀ c ∈ m, c.2 ≠ Memory.unlisted := by
  induction m with
  | nil => simp [Memory.wf]
  | cons c rest ih =>
    cases rest with
    | nil => simp [Memory.wf]
    | cons d rest =>
      simp only [Memory.wf, Bool.and_eq_true, decide_eq_true_eq, ih, List.pairwise_cons, List.forall_mem_cons]
      constructor
      · rintro ⟨⟨hc, hcd⟩, ⟨hd, hp⟩, hdv, hv⟩
        exact ⟨⟨⟨hcd, fun e he => hcd.trans (hd e he)⟩, hd, hp⟩, hc, hdv, hv⟩
      · rintro ⟨⟨⟨hcd, _⟩, hd, hp⟩, hc, hdv, hv⟩
        exact ⟨⟨hc, hcd⟩, ⟨hd, hp⟩, hdv, hv⟩

/-- The tail of a canonical memory is canonical, its head cell lies below it, and its head byte is listed. -/
theorem Memory.wf_cons {c : Host.Cell} {m : Memory} (h : Memory.wf (c :: m) = true) :
    Memory.wf m = true ∧ (∀ d ∈ m, c.1 < d.1) ∧ c.2 ≠ Memory.unlisted := by
  rw [Memory.wf_iff, List.pairwise_cons, List.forall_mem_cons] at h
  exact ⟨(Memory.wf_iff m).2 ⟨h.1.2, h.2.2⟩, h.1.1, h.2.1⟩

/-- An address below every cell reads as unlisted. -/
theorem Memory.read_below {m : Memory} {a : Nat} (h : ∀ d ∈ m, a < d.1) : Memory.read m a = Memory.unlisted := by
  induction m with
  | nil => rfl
  | cons c m ih =>
    rw [List.forall_mem_cons] at h
    rw [Memory.read_cons, if_neg h.1.ne, ih h.2]

/-- A write touches no cell address but its own. -/
theorem Memory.mem_write {m : Memory} {a : Nat} {v : Byte} {c : Host.Cell} (h : c ∈ Memory.write m a v) :
    c ∈ m ∨ c = (a, v) := by
  have hcell : ∀ {c : Host.Cell}, c ∈ Memory.cell a v → c = (a, v) := by
    intro c hc
    unfold Memory.cell at hc
    split at hc <;> simp_all
  induction m with
  | nil => exact .inr (hcell h)
  | cons d m ih =>
    simp only [Memory.write] at h
    split at h
    · rcases List.mem_append.1 h with h | h
      · exact .inr (hcell h)
      · exact .inl h
    · split at h
      · rcases List.mem_append.1 h with h | h
        · exact .inr (hcell h)
        · exact .inl (List.mem_cons_of_mem _ h)
      · rcases List.mem_cons.1 h with h | h
        · exact .inl (by simp [h])
        · exact (ih h).imp (List.mem_cons_of_mem _) id

theorem Memory.cell_append_wf {m : Memory} {a : Nat} (v : Byte) (h : Memory.wf m = true) (ha : ∀ d ∈ m, a < d.1) :
    Memory.wf (Memory.cell a v ++ m) = true := by
  unfold Memory.cell
  split
  · exact h
  · rename_i hv
    rw [Memory.wf_iff] at h ⊢
    simp only [List.cons_append, List.nil_append, List.pairwise_cons, List.forall_mem_cons]
    exact ⟨⟨ha, h.1⟩, hv, h.2⟩

/-- Every write keeps the canonical form. -/
theorem Memory.write_wf {m : Memory} (a : Nat) (v : Byte) (h : Memory.wf m = true) :
    Memory.wf (Memory.write m a v) = true := by
  induction m with
  | nil => simpa [Memory.write] using Memory.cell_append_wf (m := []) (a := a) v rfl (by simp)
  | cons c m ih =>
    obtain ⟨hm, hlow, hc⟩ := Memory.wf_cons h
    simp only [Memory.write]
    split
    · rename_i hac
      exact Memory.cell_append_wf v h (by
        rw [List.forall_mem_cons]; exact ⟨hac, fun d hd => lt_trans hac (hlow d hd)⟩)
    · split
      · rename_i hac
        exact Memory.cell_append_wf v hm (fun d hd => hac ▸ hlow d hd)
      · rename_i hlt hne
        rw [Memory.wf_iff, List.pairwise_cons, List.forall_mem_cons]
        have hw := (Memory.wf_iff _).1 (ih hm)
        refine ⟨⟨fun d hd => ?_, hw.1⟩, hc, hw.2⟩
        rcases Memory.mem_write hd with hd | rfl
        · exact hlow d hd
        · exact lt_of_le_of_ne (Nat.le_of_not_lt hlt) (Ne.symm hne)

theorem Memory.read_cell_append {m : Memory} {a : Nat} (v : Byte) (ha : ∀ d ∈ m, a < d.1) (b : Nat) :
    Memory.read (Memory.cell a v ++ m) b = if b = a then v else Memory.read m b := by
  unfold Memory.cell
  split
  · rename_i hv
    split
    · rename_i hb
      rw [hv, hb]
      exact Memory.read_below ha
    · rfl
  · rfl

/-- A read after a write to a canonical memory: the byte written, and every other byte as before. -/
theorem Memory.read_write {m : Memory} (h : Memory.wf m = true) (a : Nat) (v : Byte) (b : Nat) :
    Memory.read (Memory.write m a v) b = if b = a then v else Memory.read m b := by
  induction m with
  | nil => simpa [Memory.write] using Memory.read_cell_append (m := []) (a := a) v (by simp) b
  | cons c m ih =>
    obtain ⟨hm, hlow, -⟩ := Memory.wf_cons h
    simp only [Memory.write]
    split
    · rename_i hac
      exact Memory.read_cell_append v (by
        rw [List.forall_mem_cons]; exact ⟨hac, fun d hd => lt_trans hac (hlow d hd)⟩) b
    · split
      · rename_i hac
        rw [Memory.read_cell_append v (fun d hd => hac ▸ hlow d hd), Memory.read_cons]
        split <;> simp_all
      · rename_i hlt hne
        rw [Memory.read_cons, Memory.read_cons, ih hm]
        by_cases hb : b = c.1
        · have : b ≠ a := fun e => hne (e ▸ hb)
          simp [hb]
          intro e
          exact absurd (e ▸ rfl) hne
        · simp [hb]

/-- Two canonical memories that read alike are the same data. -/
theorem Memory.ext_read {m m' : Memory} (h : Memory.wf m = true) (h' : Memory.wf m' = true)
    (hr : ∀ a, Memory.read m a = Memory.read m' a) : m = m' := by
  induction m generalizing m' with
  | nil =>
    cases m' with
    | nil => rfl
    | cons c m' =>
      have := hr c.1
      rw [Memory.read_cons, if_pos rfl] at this
      exact absurd this.symm (Memory.wf_cons h').2.2
  | cons c m ih =>
    obtain ⟨hm, hlow, hc⟩ := Memory.wf_cons h
    cases m' with
    | nil =>
      have := hr c.1
      rw [Memory.read_cons, if_pos rfl] at this
      exact absurd this hc
    | cons c' m' =>
      obtain ⟨hm', hlow', hc'⟩ := Memory.wf_cons h'
      have key : c.1 = c'.1 := by
        rcases Nat.lt_trichotomy c.1 c'.1 with hlt | heq | hgt
        · have := hr c.1
          rw [Memory.read_cons, if_pos rfl, Memory.read_cons, if_neg hlt.ne,
            Memory.read_below fun d hd => lt_trans hlt (hlow' d hd)] at this
          exact absurd this hc
        · exact heq
        · have := hr c'.1
          rw [Memory.read_cons, if_neg (Nat.ne_of_lt hgt), Memory.read_below (fun d hd => lt_trans hgt (hlow d hd)),
            Memory.read_cons, if_pos rfl] at this
          exact absurd this.symm hc'
      have val : c.2 = c'.2 := by
        have := hr c.1
        rwa [Memory.read_cons, if_pos rfl, Memory.read_cons, if_pos key] at this
      have tail : m = m' := ih hm hm' fun a => by
        by_cases ha : a = c.1
        · rw [ha, Memory.read_below hlow, Memory.read_below fun d hd => key ▸ hlow' d hd]
        · have := hr a
          rwa [Memory.read_cons, if_neg ha, Memory.read_cons, if_neg (key ▸ ha)] at this
      rw [tail, Prod.ext key val]

/-! ### Ranges -/

@[simp] theorem Memory.writeRange_nil (m : Memory) (a : Nat) : Memory.writeRange m a [] = m := rfl

theorem Memory.writeRange_append (m : Memory) (a : Nat) (xs ys : List Byte) :
    Memory.writeRange m a (xs ++ ys) = Memory.writeRange (Memory.writeRange m a xs) (a + xs.length) ys := by
  induction xs generalizing m a with
  | nil => simp
  | cons x xs ih => simp [Memory.writeRange, ih, Nat.add_assoc, Nat.add_comm 1]

/-- Every range write keeps the canonical form. -/
theorem Memory.writeRange_wf {m : Memory} (a : Nat) (bs : List Byte) (h : Memory.wf m = true) :
    Memory.wf (Memory.writeRange m a bs) = true := by
  induction bs generalizing m a with
  | nil => exact h
  | cons b bs ih => exact ih _ (Memory.write_wf a b h)

/-- A range write adds cells of its range only. -/
theorem Memory.mem_writeRange {m : Memory} {a : Nat} {bs : List Byte} {c : Host.Cell}
    (h : c ∈ Memory.writeRange m a bs) : c ∈ m ∨ (a ≤ c.1 ∧ c.1 < a + bs.length) := by
  induction bs generalizing m a with
  | nil => exact .inl h
  | cons b bs ih =>
    rcases ih h with h | h
    · rcases Memory.mem_write h with h | rfl
      · exact .inl h
      · exact .inr ⟨le_rfl, by simp⟩
    · refine .inr ⟨by omega, ?_⟩
      simp only [List.length_cons]
      omega

/-- A read after a range write: the byte of the range, and every other byte as before. -/
theorem Memory.read_writeRange {m : Memory} (h : Memory.wf m = true) (a : Nat) (bs : List Byte) (b : Nat) :
    Memory.read (Memory.writeRange m a bs) b =
      if a ≤ b ∧ b < a + bs.length then bs.getD (b - a) 0 else Memory.read m b := by
  induction bs generalizing m a with
  | nil =>
    rw [Memory.writeRange_nil, if_neg]
    simp only [List.length_nil]
    omega
  | cons x bs ih =>
    rw [Memory.writeRange, ih (Memory.write_wf a x h), Memory.read_write h]
    simp only [List.length_cons]
    by_cases hb : b = a
    · subst hb
      rw [if_neg (by omega), if_pos rfl, if_pos (by omega)]
      simp
    · by_cases hin : a + 1 ≤ b ∧ b < a + 1 + bs.length
      · rw [if_pos hin, if_pos (by omega)]
        obtain ⟨k, rfl⟩ : ∃ k, b = a + (k + 1) := ⟨b - a - 1, by omega⟩
        rw [show a + (k + 1) - (a + 1) = k by omega, show a + (k + 1) - a = k + 1 by omega]
        simp
      · rw [if_neg hin, if_neg hb, if_neg (by omega)]

@[simp] theorem Memory.length_readRange (m : Memory) (a n : Nat) : (Memory.readRange m a n).length = n := by
  induction n generalizing a with
  | zero => rfl
  | succ n ih => simp [Memory.readRange, ih]

/-- The bytes of a range, by index. -/
theorem Memory.readRange_eq_map (m : Memory) (a n : Nat) :
    Memory.readRange m a n = (List.range n).map fun i => Memory.read m (a + i) := by
  induction n generalizing a with
  | zero => rfl
  | succ n ih =>
    rw [Memory.readRange, ih, List.range_succ_eq_map, List.map_cons, List.map_map]
    congr 1
    refine List.map_congr_left fun i _ => ?_
    simp only [Function.comp]
    congr 1
    omega

/-- Two memories that read alike on a range give the same bytes. -/
theorem Memory.readRange_congr {m m' : Memory} {a a' n : Nat}
    (h : ∀ i < n, Memory.read m (a + i) = Memory.read m' (a' + i)) :
    Memory.readRange m a n = Memory.readRange m' a' n := by
  rw [Memory.readRange_eq_map, Memory.readRange_eq_map]
  exact List.map_congr_left fun i hi => h i (List.mem_range.1 hi)

/-- The bytes read back from a range just written are the bytes written. -/
theorem Memory.readRange_writeRange {m : Memory} (h : Memory.wf m = true) (a : Nat) (bs : List Byte) :
    Memory.readRange (Memory.writeRange m a bs) a bs.length = bs := by
  rw [Memory.readRange_eq_map]
  refine List.ext_getElem (by simp) fun i hi hi' => ?_
  simp [Memory.read_writeRange h, hi']

/-- Writes to different addresses of a canonical memory commute. -/
theorem Memory.write_comm {m : Memory} (h : Memory.wf m = true) {a b : Nat} (hab : a ≠ b) (v w : Byte) :
    Memory.write (Memory.write m a v) b w = Memory.write (Memory.write m b w) a v := by
  refine Memory.ext_read (Memory.write_wf _ _ (Memory.write_wf _ _ h)) (Memory.write_wf _ _ (Memory.write_wf _ _ h))
    fun c => ?_
  rw [Memory.read_write (Memory.write_wf _ _ h), Memory.read_write h, Memory.read_write (Memory.write_wf _ _ h),
    Memory.read_write h]
  by_cases h1 : c = b <;> by_cases h2 : c = a <;> simp_all

/-- A write outside a range commutes with the range write. -/
theorem Memory.writeRange_write_comm {m : Memory} (h : Memory.wf m = true) {a b : Nat} {bs : List Byte}
    (hb : b < a ∨ a + bs.length ≤ b) (w : Byte) :
    Memory.writeRange (Memory.write m b w) a bs = Memory.write (Memory.writeRange m a bs) b w := by
  induction bs generalizing m a with
  | nil => rfl
  | cons x bs ih =>
    simp only [List.length_cons] at hb
    rw [Memory.writeRange, Memory.writeRange, Memory.write_comm h (by omega), ih (Memory.write_wf _ _ h) (by omega)]

end Sys2Proof.Machine
end

