-- ==== Sys2Proof/Laws/State.lean ====
section
/-! SUPPORT. One lemma per field of `State` per named update, so that no later proof unfolds a record update. -/

namespace Sys2Proof.Machine

/-! ### beginCommand -/

@[simp] theorem beginCommand_cfg (s : State) : (beginCommand s).cfg = s.cfg := rfl
@[simp] theorem beginCommand_cmd (s : State) : (beginCommand s).cmd = s.cmd := rfl
@[simp] theorem beginCommand_code (s : State) : (beginCommand s).code = s.code := rfl
@[simp] theorem beginCommand_busy (s : State) : (beginCommand s).busy = s.busy := rfl
@[simp] theorem beginCommand_result (s : State) : (beginCommand s).result = s.result := rfl
@[simp] theorem beginCommand_dest (s : State) : (beginCommand s).dest = s.dest := rfl
@[simp] theorem beginCommand_src (s : State) : (beginCommand s).src = s.src := rfl
@[simp] theorem beginCommand_len (s : State) : (beginCommand s).len = s.len := rfl
@[simp] theorem beginCommand_argA (s : State) : (beginCommand s).argA = s.argA := rfl
@[simp] theorem beginCommand_argB (s : State) : (beginCommand s).argB = s.argB := rfl
@[simp] theorem beginCommand_word0 (s : State) : (beginCommand s).word0 = s.word0 := rfl
@[simp] theorem beginCommand_word1 (s : State) : (beginCommand s).word1 = s.word1 := rfl
@[simp] theorem beginCommand_srcNull (s : State) : (beginCommand s).srcNull = s.srcNull := rfl
@[simp] theorem beginCommand_latch (s : State) : (beginCommand s).latch = s.latch := rfl
@[simp] theorem beginCommand_acc (s : State) : (beginCommand s).acc = s.acc := rfl
@[simp] theorem beginCommand_cur (s : State) : (beginCommand s).cur = 0 := rfl
@[simp] theorem beginCommand_padCnt (s : State) : (beginCommand s).padCnt = s.padCnt := rfl
@[simp] theorem beginCommand_mem (s : State) : (beginCommand s).mem = s.mem := rfl
@[simp] theorem beginCommand_inFlight (s : State) : (beginCommand s).inFlight = s.inFlight := rfl
@[simp] theorem beginCommand_draws (s : State) : (beginCommand s).draws = s.draws := rfl
@[simp] theorem beginCommand_sched (s : State) : (beginCommand s).sched = s.sched := rfl
@[simp] theorem beginCommand_hostProg (s : State) : (beginCommand s).hostProg = s.hostProg := rfl
@[simp] theorem beginCommand_hostPc (s : State) : (beginCommand s).hostPc = s.hostPc := rfl
@[simp] theorem beginCommand_hostTemps (s : State) : (beginCommand s).hostTemps = s.hostTemps := rfl

/-! ### seedAcc -/

@[simp] theorem seedAcc_cfg (s : State) : (seedAcc s).cfg = s.cfg := rfl
@[simp] theorem seedAcc_cmd (s : State) : (seedAcc s).cmd = s.cmd := rfl
@[simp] theorem seedAcc_code (s : State) : (seedAcc s).code = s.code := rfl
@[simp] theorem seedAcc_busy (s : State) : (seedAcc s).busy = s.busy := rfl
@[simp] theorem seedAcc_result (s : State) : (seedAcc s).result = s.result := rfl
@[simp] theorem seedAcc_dest (s : State) : (seedAcc s).dest = s.dest := rfl
@[simp] theorem seedAcc_src (s : State) : (seedAcc s).src = s.src := rfl
@[simp] theorem seedAcc_len (s : State) : (seedAcc s).len = s.len := rfl
@[simp] theorem seedAcc_argA (s : State) : (seedAcc s).argA = s.argA := rfl
@[simp] theorem seedAcc_argB (s : State) : (seedAcc s).argB = s.argB := rfl
@[simp] theorem seedAcc_word0 (s : State) : (seedAcc s).word0 = s.word0 := rfl
@[simp] theorem seedAcc_word1 (s : State) : (seedAcc s).word1 = s.word1 := rfl
@[simp] theorem seedAcc_srcNull (s : State) : (seedAcc s).srcNull = s.srcNull := rfl
@[simp] theorem seedAcc_latch (s : State) : (seedAcc s).latch = s.latch := rfl
@[simp] theorem seedAcc_acc (s : State) : (seedAcc s).acc = csumSeed := rfl
@[simp] theorem seedAcc_cur (s : State) : (seedAcc s).cur = s.cur := rfl
@[simp] theorem seedAcc_padCnt (s : State) : (seedAcc s).padCnt = s.padCnt := rfl
@[simp] theorem seedAcc_mem (s : State) : (seedAcc s).mem = s.mem := rfl
@[simp] theorem seedAcc_inFlight (s : State) : (seedAcc s).inFlight = s.inFlight := rfl
@[simp] theorem seedAcc_draws (s : State) : (seedAcc s).draws = s.draws := rfl
@[simp] theorem seedAcc_sched (s : State) : (seedAcc s).sched = s.sched := rfl
@[simp] theorem seedAcc_hostProg (s : State) : (seedAcc s).hostProg = s.hostProg := rfl
@[simp] theorem seedAcc_hostPc (s : State) : (seedAcc s).hostPc = s.hostPc := rfl
@[simp] theorem seedAcc_hostTemps (s : State) : (seedAcc s).hostTemps = s.hostTemps := rfl

/-! ### emitRaw -/

@[simp] theorem emitRaw_cfg (b : Byte) (s : State) : (emitRaw b s).cfg = s.cfg := rfl
@[simp] theorem emitRaw_cmd (b : Byte) (s : State) : (emitRaw b s).cmd = s.cmd := rfl
@[simp] theorem emitRaw_code (b : Byte) (s : State) : (emitRaw b s).code = s.code := rfl
@[simp] theorem emitRaw_busy (b : Byte) (s : State) : (emitRaw b s).busy = s.busy := rfl
@[simp] theorem emitRaw_result (b : Byte) (s : State) : (emitRaw b s).result = s.result := rfl
@[simp] theorem emitRaw_dest (b : Byte) (s : State) : (emitRaw b s).dest = s.dest := rfl
@[simp] theorem emitRaw_src (b : Byte) (s : State) : (emitRaw b s).src = s.src := rfl
@[simp] theorem emitRaw_len (b : Byte) (s : State) : (emitRaw b s).len = s.len := rfl
@[simp] theorem emitRaw_argA (b : Byte) (s : State) : (emitRaw b s).argA = s.argA := rfl
@[simp] theorem emitRaw_argB (b : Byte) (s : State) : (emitRaw b s).argB = s.argB := rfl
@[simp] theorem emitRaw_word0 (b : Byte) (s : State) : (emitRaw b s).word0 = s.word0 := rfl
@[simp] theorem emitRaw_word1 (b : Byte) (s : State) : (emitRaw b s).word1 = s.word1 := rfl
@[simp] theorem emitRaw_srcNull (b : Byte) (s : State) : (emitRaw b s).srcNull = s.srcNull := rfl
@[simp] theorem emitRaw_latch (b : Byte) (s : State) : (emitRaw b s).latch = s.latch := rfl
@[simp] theorem emitRaw_acc (b : Byte) (s : State) : (emitRaw b s).acc = s.acc := rfl
@[simp] theorem emitRaw_cur (b : Byte) (s : State) : (emitRaw b s).cur = s.cur + 1 := rfl
@[simp] theorem emitRaw_padCnt (b : Byte) (s : State) : (emitRaw b s).padCnt = s.padCnt := rfl
@[simp] theorem emitRaw_mem (b : Byte) (s : State) : (emitRaw b s).mem = s.mem.write (s.latch.destAddr + s.cur) b := rfl
@[simp] theorem emitRaw_inFlight (b : Byte) (s : State) : (emitRaw b s).inFlight = s.inFlight := rfl
@[simp] theorem emitRaw_draws (b : Byte) (s : State) : (emitRaw b s).draws = s.draws := rfl
@[simp] theorem emitRaw_sched (b : Byte) (s : State) : (emitRaw b s).sched = s.sched := rfl
@[simp] theorem emitRaw_hostProg (b : Byte) (s : State) : (emitRaw b s).hostProg = s.hostProg := rfl
@[simp] theorem emitRaw_hostPc (b : Byte) (s : State) : (emitRaw b s).hostPc = s.hostPc := rfl
@[simp] theorem emitRaw_hostTemps (b : Byte) (s : State) : (emitRaw b s).hostTemps = s.hostTemps := rfl

/-! ### foldByte -/

@[simp] theorem foldByte_cfg (b : Byte) (s : State) : (foldByte b s).cfg = s.cfg := rfl
@[simp] theorem foldByte_cmd (b : Byte) (s : State) : (foldByte b s).cmd = s.cmd := rfl
@[simp] theorem foldByte_code (b : Byte) (s : State) : (foldByte b s).code = s.code := rfl
@[simp] theorem foldByte_busy (b : Byte) (s : State) : (foldByte b s).busy = s.busy := rfl
@[simp] theorem foldByte_result (b : Byte) (s : State) : (foldByte b s).result = s.result := rfl
@[simp] theorem foldByte_dest (b : Byte) (s : State) : (foldByte b s).dest = s.dest := rfl
@[simp] theorem foldByte_src (b : Byte) (s : State) : (foldByte b s).src = s.src := rfl
@[simp] theorem foldByte_len (b : Byte) (s : State) : (foldByte b s).len = s.len := rfl
@[simp] theorem foldByte_argA (b : Byte) (s : State) : (foldByte b s).argA = s.argA := rfl
@[simp] theorem foldByte_argB (b : Byte) (s : State) : (foldByte b s).argB = s.argB := rfl
@[simp] theorem foldByte_word0 (b : Byte) (s : State) : (foldByte b s).word0 = s.word0 := rfl
@[simp] theorem foldByte_word1 (b : Byte) (s : State) : (foldByte b s).word1 = s.word1 := rfl
@[simp] theorem foldByte_srcNull (b : Byte) (s : State) : (foldByte b s).srcNull = s.srcNull := rfl
@[simp] theorem foldByte_latch (b : Byte) (s : State) : (foldByte b s).latch = s.latch := rfl
@[simp] theorem foldByte_acc (b : Byte) (s : State) : (foldByte b s).acc = engine s.acc b := rfl
@[simp] theorem foldByte_cur (b : Byte) (s : State) : (foldByte b s).cur = s.cur := rfl
@[simp] theorem foldByte_padCnt (b : Byte) (s : State) : (foldByte b s).padCnt = s.padCnt := rfl
@[simp] theorem foldByte_mem (b : Byte) (s : State) : (foldByte b s).mem = s.mem := rfl
@[simp] theorem foldByte_inFlight (b : Byte) (s : State) : (foldByte b s).inFlight = s.inFlight := rfl
@[simp] theorem foldByte_draws (b : Byte) (s : State) : (foldByte b s).draws = s.draws := rfl
@[simp] theorem foldByte_sched (b : Byte) (s : State) : (foldByte b s).sched = s.sched := rfl
@[simp] theorem foldByte_hostProg (b : Byte) (s : State) : (foldByte b s).hostProg = s.hostProg := rfl
@[simp] theorem foldByte_hostPc (b : Byte) (s : State) : (foldByte b s).hostPc = s.hostPc := rfl
@[simp] theorem foldByte_hostTemps (b : Byte) (s : State) : (foldByte b s).hostTemps = s.hostTemps := rfl

/-! ### emitByte -/

@[simp] theorem emitByte_cfg (b : Byte) (s : State) : (emitByte b s).cfg = s.cfg := rfl
@[simp] theorem emitByte_cmd (b : Byte) (s : State) : (emitByte b s).cmd = s.cmd := rfl
@[simp] theorem emitByte_code (b : Byte) (s : State) : (emitByte b s).code = s.code := rfl
@[simp] theorem emitByte_busy (b : Byte) (s : State) : (emitByte b s).busy = s.busy := rfl
@[simp] theorem emitByte_result (b : Byte) (s : State) : (emitByte b s).result = s.result := rfl
@[simp] theorem emitByte_dest (b : Byte) (s : State) : (emitByte b s).dest = s.dest := rfl
@[simp] theorem emitByte_src (b : Byte) (s : State) : (emitByte b s).src = s.src := rfl
@[simp] theorem emitByte_len (b : Byte) (s : State) : (emitByte b s).len = s.len := rfl
@[simp] theorem emitByte_argA (b : Byte) (s : State) : (emitByte b s).argA = s.argA := rfl
@[simp] theorem emitByte_argB (b : Byte) (s : State) : (emitByte b s).argB = s.argB := rfl
@[simp] theorem emitByte_word0 (b : Byte) (s : State) : (emitByte b s).word0 = s.word0 := rfl
@[simp] theorem emitByte_word1 (b : Byte) (s : State) : (emitByte b s).word1 = s.word1 := rfl
@[simp] theorem emitByte_srcNull (b : Byte) (s : State) : (emitByte b s).srcNull = s.srcNull := rfl
@[simp] theorem emitByte_latch (b : Byte) (s : State) : (emitByte b s).latch = s.latch := rfl
@[simp] theorem emitByte_acc (b : Byte) (s : State) : (emitByte b s).acc = engine s.acc b := rfl
@[simp] theorem emitByte_cur (b : Byte) (s : State) : (emitByte b s).cur = s.cur + 1 := rfl
@[simp] theorem emitByte_padCnt (b : Byte) (s : State) : (emitByte b s).padCnt = s.padCnt := rfl
@[simp] theorem emitByte_mem (b : Byte) (s : State) : (emitByte b s).mem = s.mem.write (s.latch.destAddr + s.cur) b := rfl
@[simp] theorem emitByte_inFlight (b : Byte) (s : State) : (emitByte b s).inFlight = s.inFlight := rfl
@[simp] theorem emitByte_draws (b : Byte) (s : State) : (emitByte b s).draws = s.draws := rfl
@[simp] theorem emitByte_sched (b : Byte) (s : State) : (emitByte b s).sched = s.sched := rfl
@[simp] theorem emitByte_hostProg (b : Byte) (s : State) : (emitByte b s).hostProg = s.hostProg := rfl
@[simp] theorem emitByte_hostPc (b : Byte) (s : State) : (emitByte b s).hostPc = s.hostPc := rfl
@[simp] theorem emitByte_hostTemps (b : Byte) (s : State) : (emitByte b s).hostTemps = s.hostTemps := rfl

/-! ### loadPad -/

@[simp] theorem loadPad_cfg (p : Nat) (s : State) : (loadPad p s).cfg = s.cfg := rfl
@[simp] theorem loadPad_cmd (p : Nat) (s : State) : (loadPad p s).cmd = s.cmd := rfl
@[simp] theorem loadPad_code (p : Nat) (s : State) : (loadPad p s).code = s.code := rfl
@[simp] theorem loadPad_busy (p : Nat) (s : State) : (loadPad p s).busy = s.busy := rfl
@[simp] theorem loadPad_result (p : Nat) (s : State) : (loadPad p s).result = s.result := rfl
@[simp] theorem loadPad_dest (p : Nat) (s : State) : (loadPad p s).dest = s.dest := rfl
@[simp] theorem loadPad_src (p : Nat) (s : State) : (loadPad p s).src = s.src := rfl
@[simp] theorem loadPad_len (p : Nat) (s : State) : (loadPad p s).len = s.len := rfl
@[simp] theorem loadPad_argA (p : Nat) (s : State) : (loadPad p s).argA = s.argA := rfl
@[simp] theorem loadPad_argB (p : Nat) (s : State) : (loadPad p s).argB = s.argB := rfl
@[simp] theorem loadPad_word0 (p : Nat) (s : State) : (loadPad p s).word0 = s.word0 := rfl
@[simp] theorem loadPad_word1 (p : Nat) (s : State) : (loadPad p s).word1 = s.word1 := rfl
@[simp] theorem loadPad_srcNull (p : Nat) (s : State) : (loadPad p s).srcNull = s.srcNull := rfl
@[simp] theorem loadPad_latch (p : Nat) (s : State) : (loadPad p s).latch = s.latch := rfl
@[simp] theorem loadPad_acc (p : Nat) (s : State) : (loadPad p s).acc = s.acc := rfl
@[simp] theorem loadPad_cur (p : Nat) (s : State) : (loadPad p s).cur = s.cur := rfl
@[simp] theorem loadPad_padCnt (p : Nat) (s : State) : (loadPad p s).padCnt = BitVec.ofNat 8 p := rfl
@[simp] theorem loadPad_mem (p : Nat) (s : State) : (loadPad p s).mem = s.mem := rfl
@[simp] theorem loadPad_inFlight (p : Nat) (s : State) : (loadPad p s).inFlight = s.inFlight := rfl
@[simp] theorem loadPad_draws (p : Nat) (s : State) : (loadPad p s).draws = s.draws := rfl
@[simp] theorem loadPad_sched (p : Nat) (s : State) : (loadPad p s).sched = s.sched := rfl
@[simp] theorem loadPad_hostProg (p : Nat) (s : State) : (loadPad p s).hostProg = s.hostProg := rfl
@[simp] theorem loadPad_hostPc (p : Nat) (s : State) : (loadPad p s).hostPc = s.hostPc := rfl
@[simp] theorem loadPad_hostTemps (p : Nat) (s : State) : (loadPad p s).hostTemps = s.hostTemps := rfl

/-! ### dropPad -/

@[simp] theorem dropPad_cfg (s : State) : (dropPad s).cfg = s.cfg := rfl
@[simp] theorem dropPad_cmd (s : State) : (dropPad s).cmd = s.cmd := rfl
@[simp] theorem dropPad_code (s : State) : (dropPad s).code = s.code := rfl
@[simp] theorem dropPad_busy (s : State) : (dropPad s).busy = s.busy := rfl
@[simp] theorem dropPad_result (s : State) : (dropPad s).result = s.result := rfl
@[simp] theorem dropPad_dest (s : State) : (dropPad s).dest = s.dest := rfl
@[simp] theorem dropPad_src (s : State) : (dropPad s).src = s.src := rfl
@[simp] theorem dropPad_len (s : State) : (dropPad s).len = s.len := rfl
@[simp] theorem dropPad_argA (s : State) : (dropPad s).argA = s.argA := rfl
@[simp] theorem dropPad_argB (s : State) : (dropPad s).argB = s.argB := rfl
@[simp] theorem dropPad_word0 (s : State) : (dropPad s).word0 = s.word0 := rfl
@[simp] theorem dropPad_word1 (s : State) : (dropPad s).word1 = s.word1 := rfl
@[simp] theorem dropPad_srcNull (s : State) : (dropPad s).srcNull = s.srcNull := rfl
@[simp] theorem dropPad_latch (s : State) : (dropPad s).latch = s.latch := rfl
@[simp] theorem dropPad_acc (s : State) : (dropPad s).acc = s.acc := rfl
@[simp] theorem dropPad_cur (s : State) : (dropPad s).cur = s.cur := rfl
@[simp] theorem dropPad_padCnt (s : State) : (dropPad s).padCnt = s.padCnt - 1 := rfl
@[simp] theorem dropPad_mem (s : State) : (dropPad s).mem = s.mem := rfl
@[simp] theorem dropPad_inFlight (s : State) : (dropPad s).inFlight = s.inFlight := rfl
@[simp] theorem dropPad_draws (s : State) : (dropPad s).draws = s.draws := rfl
@[simp] theorem dropPad_sched (s : State) : (dropPad s).sched = s.sched := rfl
@[simp] theorem dropPad_hostProg (s : State) : (dropPad s).hostProg = s.hostProg := rfl
@[simp] theorem dropPad_hostPc (s : State) : (dropPad s).hostPc = s.hostPc := rfl
@[simp] theorem dropPad_hostTemps (s : State) : (dropPad s).hostTemps = s.hostTemps := rfl

/-! ### finishOk -/

@[simp] theorem finishOk_cfg (v : Nat) (s : State) : (finishOk v s).cfg = s.cfg := rfl
@[simp] theorem finishOk_cmd (v : Nat) (s : State) : (finishOk v s).cmd = s.cmd := rfl
@[simp] theorem finishOk_code (v : Nat) (s : State) : (finishOk v s).code = .ok := rfl
@[simp] theorem finishOk_busy (v : Nat) (s : State) : (finishOk v s).busy = false := rfl
@[simp] theorem finishOk_result (v : Nat) (s : State) : (finishOk v s).result = BitVec.ofNat 32 v := rfl
@[simp] theorem finishOk_dest (v : Nat) (s : State) : (finishOk v s).dest = s.dest := rfl
@[simp] theorem finishOk_src (v : Nat) (s : State) : (finishOk v s).src = s.src := rfl
@[simp] theorem finishOk_len (v : Nat) (s : State) : (finishOk v s).len = s.len := rfl
@[simp] theorem finishOk_argA (v : Nat) (s : State) : (finishOk v s).argA = s.argA := rfl
@[simp] theorem finishOk_argB (v : Nat) (s : State) : (finishOk v s).argB = s.argB := rfl
@[simp] theorem finishOk_word0 (v : Nat) (s : State) : (finishOk v s).word0 = s.word0 := rfl
@[simp] theorem finishOk_word1 (v : Nat) (s : State) : (finishOk v s).word1 = s.word1 := rfl
@[simp] theorem finishOk_srcNull (v : Nat) (s : State) : (finishOk v s).srcNull = s.srcNull := rfl
@[simp] theorem finishOk_latch (v : Nat) (s : State) : (finishOk v s).latch = s.latch := rfl
@[simp] theorem finishOk_acc (v : Nat) (s : State) : (finishOk v s).acc = s.acc := rfl
@[simp] theorem finishOk_cur (v : Nat) (s : State) : (finishOk v s).cur = s.cur := rfl
@[simp] theorem finishOk_padCnt (v : Nat) (s : State) : (finishOk v s).padCnt = s.padCnt := rfl
@[simp] theorem finishOk_mem (v : Nat) (s : State) : (finishOk v s).mem = s.mem := rfl
@[simp] theorem finishOk_inFlight (v : Nat) (s : State) : (finishOk v s).inFlight = s.inFlight := rfl
@[simp] theorem finishOk_draws (v : Nat) (s : State) : (finishOk v s).draws = s.draws := rfl
@[simp] theorem finishOk_sched (v : Nat) (s : State) : (finishOk v s).sched = s.sched := rfl
@[simp] theorem finishOk_hostProg (v : Nat) (s : State) : (finishOk v s).hostProg = s.hostProg := rfl
@[simp] theorem finishOk_hostPc (v : Nat) (s : State) : (finishOk v s).hostPc = s.hostPc := rfl
@[simp] theorem finishOk_hostTemps (v : Nat) (s : State) : (finishOk v s).hostTemps = s.hostTemps := rfl

/-! ### finishFail -/

@[simp] theorem finishFail_cfg (c : Code) (s : State) : (finishFail c s).cfg = s.cfg := rfl
@[simp] theorem finishFail_cmd (c : Code) (s : State) : (finishFail c s).cmd = s.cmd := rfl
@[simp] theorem finishFail_code (c : Code) (s : State) : (finishFail c s).code = c := rfl
@[simp] theorem finishFail_busy (c : Code) (s : State) : (finishFail c s).busy = false := rfl
@[simp] theorem finishFail_result (c : Code) (s : State) : (finishFail c s).result = sentinel := rfl
@[simp] theorem finishFail_dest (c : Code) (s : State) : (finishFail c s).dest = s.dest := rfl
@[simp] theorem finishFail_src (c : Code) (s : State) : (finishFail c s).src = s.src := rfl
@[simp] theorem finishFail_len (c : Code) (s : State) : (finishFail c s).len = s.len := rfl
@[simp] theorem finishFail_argA (c : Code) (s : State) : (finishFail c s).argA = s.argA := rfl
@[simp] theorem finishFail_argB (c : Code) (s : State) : (finishFail c s).argB = s.argB := rfl
@[simp] theorem finishFail_word0 (c : Code) (s : State) : (finishFail c s).word0 = s.word0 := rfl
@[simp] theorem finishFail_word1 (c : Code) (s : State) : (finishFail c s).word1 = s.word1 := rfl
@[simp] theorem finishFail_srcNull (c : Code) (s : State) : (finishFail c s).srcNull = s.srcNull := rfl
@[simp] theorem finishFail_latch (c : Code) (s : State) : (finishFail c s).latch = s.latch := rfl
@[simp] theorem finishFail_acc (c : Code) (s : State) : (finishFail c s).acc = s.acc := rfl
@[simp] theorem finishFail_cur (c : Code) (s : State) : (finishFail c s).cur = s.cur := rfl
@[simp] theorem finishFail_padCnt (c : Code) (s : State) : (finishFail c s).padCnt = s.padCnt := rfl
@[simp] theorem finishFail_mem (c : Code) (s : State) : (finishFail c s).mem = s.mem := rfl
@[simp] theorem finishFail_inFlight (c : Code) (s : State) : (finishFail c s).inFlight = s.inFlight := rfl
@[simp] theorem finishFail_draws (c : Code) (s : State) : (finishFail c s).draws = s.draws := rfl
@[simp] theorem finishFail_sched (c : Code) (s : State) : (finishFail c s).sched = s.sched := rfl
@[simp] theorem finishFail_hostProg (c : Code) (s : State) : (finishFail c s).hostProg = s.hostProg := rfl
@[simp] theorem finishFail_hostPc (c : Code) (s : State) : (finishFail c s).hostPc = s.hostPc := rfl
@[simp] theorem finishFail_hostTemps (c : Code) (s : State) : (finishFail c s).hostTemps = s.hostTemps := rfl

/-! ### acceptCommand -/

@[simp] theorem acceptCommand_cfg (w : Word) (s : State) : (acceptCommand w s).cfg = s.cfg := rfl
@[simp] theorem acceptCommand_cmd (w : Word) (s : State) : (acceptCommand w s).cmd = w := rfl
@[simp] theorem acceptCommand_code (w : Word) (s : State) : (acceptCommand w s).code = s.code := rfl
@[simp] theorem acceptCommand_busy (w : Word) (s : State) : (acceptCommand w s).busy = true := rfl
@[simp] theorem acceptCommand_result (w : Word) (s : State) : (acceptCommand w s).result = s.result := rfl
@[simp] theorem acceptCommand_dest (w : Word) (s : State) : (acceptCommand w s).dest = s.dest := rfl
@[simp] theorem acceptCommand_src (w : Word) (s : State) : (acceptCommand w s).src = s.src := rfl
@[simp] theorem acceptCommand_len (w : Word) (s : State) : (acceptCommand w s).len = s.len := rfl
@[simp] theorem acceptCommand_argA (w : Word) (s : State) : (acceptCommand w s).argA = s.argA := rfl
@[simp] theorem acceptCommand_argB (w : Word) (s : State) : (acceptCommand w s).argB = s.argB := rfl
@[simp] theorem acceptCommand_word0 (w : Word) (s : State) : (acceptCommand w s).word0 = s.word0 := rfl
@[simp] theorem acceptCommand_word1 (w : Word) (s : State) : (acceptCommand w s).word1 = s.word1 := rfl
@[simp] theorem acceptCommand_srcNull (w : Word) (s : State) : (acceptCommand w s).srcNull = s.srcNull := rfl
@[simp] theorem acceptCommand_latch (w : Word) (s : State) : (acceptCommand w s).latch = capture w s := rfl
@[simp] theorem acceptCommand_acc (w : Word) (s : State) : (acceptCommand w s).acc = s.acc := rfl
@[simp] theorem acceptCommand_cur (w : Word) (s : State) : (acceptCommand w s).cur = s.cur := rfl
@[simp] theorem acceptCommand_padCnt (w : Word) (s : State) : (acceptCommand w s).padCnt = s.padCnt := rfl
@[simp] theorem acceptCommand_mem (w : Word) (s : State) : (acceptCommand w s).mem = s.mem := rfl
@[simp] theorem acceptCommand_inFlight (w : Word) (s : State) : (acceptCommand w s).inFlight = footprint s.cfg (capture w s) :: s.inFlight := rfl
@[simp] theorem acceptCommand_draws (w : Word) (s : State) : (acceptCommand w s).draws = s.draws := rfl
@[simp] theorem acceptCommand_sched (w : Word) (s : State) : (acceptCommand w s).sched = s.sched := rfl
@[simp] theorem acceptCommand_hostProg (w : Word) (s : State) : (acceptCommand w s).hostProg = s.hostProg := rfl
@[simp] theorem acceptCommand_hostPc (w : Word) (s : State) : (acceptCommand w s).hostPc = s.hostPc := rfl
@[simp] theorem acceptCommand_hostTemps (w : Word) (s : State) : (acceptCommand w s).hostTemps = s.hostTemps := rfl

/-! ### writeDest -/

@[simp] theorem writeDest_cfg (v : Word) (s : State) : (writeDest v s).cfg = s.cfg := rfl
@[simp] theorem writeDest_cmd (v : Word) (s : State) : (writeDest v s).cmd = s.cmd := rfl
@[simp] theorem writeDest_code (v : Word) (s : State) : (writeDest v s).code = s.code := rfl
@[simp] theorem writeDest_busy (v : Word) (s : State) : (writeDest v s).busy = s.busy := rfl
@[simp] theorem writeDest_result (v : Word) (s : State) : (writeDest v s).result = s.result := rfl
@[simp] theorem writeDest_dest (v : Word) (s : State) : (writeDest v s).dest = v := rfl
@[simp] theorem writeDest_src (v : Word) (s : State) : (writeDest v s).src = s.src := rfl
@[simp] theorem writeDest_len (v : Word) (s : State) : (writeDest v s).len = s.len := rfl
@[simp] theorem writeDest_argA (v : Word) (s : State) : (writeDest v s).argA = s.argA := rfl
@[simp] theorem writeDest_argB (v : Word) (s : State) : (writeDest v s).argB = s.argB := rfl
@[simp] theorem writeDest_word0 (v : Word) (s : State) : (writeDest v s).word0 = s.word0 := rfl
@[simp] theorem writeDest_word1 (v : Word) (s : State) : (writeDest v s).word1 = s.word1 := rfl
@[simp] theorem writeDest_srcNull (v : Word) (s : State) : (writeDest v s).srcNull = s.srcNull := rfl
@[simp] theorem writeDest_latch (v : Word) (s : State) : (writeDest v s).latch = s.latch := rfl
@[simp] theorem writeDest_acc (v : Word) (s : State) : (writeDest v s).acc = s.acc := rfl
@[simp] theorem writeDest_cur (v : Word) (s : State) : (writeDest v s).cur = s.cur := rfl
@[simp] theorem writeDest_padCnt (v : Word) (s : State) : (writeDest v s).padCnt = s.padCnt := rfl
@[simp] theorem writeDest_mem (v : Word) (s : State) : (writeDest v s).mem = s.mem := rfl
@[simp] theorem writeDest_inFlight (v : Word) (s : State) : (writeDest v s).inFlight = s.inFlight := rfl
@[simp] theorem writeDest_draws (v : Word) (s : State) : (writeDest v s).draws = s.draws := rfl
@[simp] theorem writeDest_sched (v : Word) (s : State) : (writeDest v s).sched = s.sched := rfl
@[simp] theorem writeDest_hostProg (v : Word) (s : State) : (writeDest v s).hostProg = s.hostProg := rfl
@[simp] theorem writeDest_hostPc (v : Word) (s : State) : (writeDest v s).hostPc = s.hostPc := rfl
@[simp] theorem writeDest_hostTemps (v : Word) (s : State) : (writeDest v s).hostTemps = s.hostTemps := rfl

/-! ### writeSrc -/

@[simp] theorem writeSrc_cfg (v : Word) (s : State) : (writeSrc v s).cfg = s.cfg := rfl
@[simp] theorem writeSrc_cmd (v : Word) (s : State) : (writeSrc v s).cmd = s.cmd := rfl
@[simp] theorem writeSrc_code (v : Word) (s : State) : (writeSrc v s).code = s.code := rfl
@[simp] theorem writeSrc_busy (v : Word) (s : State) : (writeSrc v s).busy = s.busy := rfl
@[simp] theorem writeSrc_result (v : Word) (s : State) : (writeSrc v s).result = s.result := rfl
@[simp] theorem writeSrc_dest (v : Word) (s : State) : (writeSrc v s).dest = s.dest := rfl
@[simp] theorem writeSrc_src (v : Word) (s : State) : (writeSrc v s).src = v := rfl
@[simp] theorem writeSrc_len (v : Word) (s : State) : (writeSrc v s).len = s.len := rfl
@[simp] theorem writeSrc_argA (v : Word) (s : State) : (writeSrc v s).argA = s.argA := rfl
@[simp] theorem writeSrc_argB (v : Word) (s : State) : (writeSrc v s).argB = s.argB := rfl
@[simp] theorem writeSrc_word0 (v : Word) (s : State) : (writeSrc v s).word0 = s.word0 := rfl
@[simp] theorem writeSrc_word1 (v : Word) (s : State) : (writeSrc v s).word1 = s.word1 := rfl
@[simp] theorem writeSrc_srcNull (v : Word) (s : State) : (writeSrc v s).srcNull = s.srcNull := rfl
@[simp] theorem writeSrc_latch (v : Word) (s : State) : (writeSrc v s).latch = s.latch := rfl
@[simp] theorem writeSrc_acc (v : Word) (s : State) : (writeSrc v s).acc = s.acc := rfl
@[simp] theorem writeSrc_cur (v : Word) (s : State) : (writeSrc v s).cur = s.cur := rfl
@[simp] theorem writeSrc_padCnt (v : Word) (s : State) : (writeSrc v s).padCnt = s.padCnt := rfl
@[simp] theorem writeSrc_mem (v : Word) (s : State) : (writeSrc v s).mem = s.mem := rfl
@[simp] theorem writeSrc_inFlight (v : Word) (s : State) : (writeSrc v s).inFlight = s.inFlight := rfl
@[simp] theorem writeSrc_draws (v : Word) (s : State) : (writeSrc v s).draws = s.draws := rfl
@[simp] theorem writeSrc_sched (v : Word) (s : State) : (writeSrc v s).sched = s.sched := rfl
@[simp] theorem writeSrc_hostProg (v : Word) (s : State) : (writeSrc v s).hostProg = s.hostProg := rfl
@[simp] theorem writeSrc_hostPc (v : Word) (s : State) : (writeSrc v s).hostPc = s.hostPc := rfl
@[simp] theorem writeSrc_hostTemps (v : Word) (s : State) : (writeSrc v s).hostTemps = s.hostTemps := rfl

/-! ### writeLen -/

@[simp] theorem writeLen_cfg (v : Word) (s : State) : (writeLen v s).cfg = s.cfg := rfl
@[simp] theorem writeLen_cmd (v : Word) (s : State) : (writeLen v s).cmd = s.cmd := rfl
@[simp] theorem writeLen_code (v : Word) (s : State) : (writeLen v s).code = s.code := rfl
@[simp] theorem writeLen_busy (v : Word) (s : State) : (writeLen v s).busy = s.busy := rfl
@[simp] theorem writeLen_result (v : Word) (s : State) : (writeLen v s).result = s.result := rfl
@[simp] theorem writeLen_dest (v : Word) (s : State) : (writeLen v s).dest = s.dest := rfl
@[simp] theorem writeLen_src (v : Word) (s : State) : (writeLen v s).src = s.src := rfl
@[simp] theorem writeLen_len (v : Word) (s : State) : (writeLen v s).len = byteAt v 0 := rfl
@[simp] theorem writeLen_argA (v : Word) (s : State) : (writeLen v s).argA = s.argA := rfl
@[simp] theorem writeLen_argB (v : Word) (s : State) : (writeLen v s).argB = s.argB := rfl
@[simp] theorem writeLen_word0 (v : Word) (s : State) : (writeLen v s).word0 = s.word0 := rfl
@[simp] theorem writeLen_word1 (v : Word) (s : State) : (writeLen v s).word1 = s.word1 := rfl
@[simp] theorem writeLen_srcNull (v : Word) (s : State) : (writeLen v s).srcNull = s.srcNull := rfl
@[simp] theorem writeLen_latch (v : Word) (s : State) : (writeLen v s).latch = s.latch := rfl
@[simp] theorem writeLen_acc (v : Word) (s : State) : (writeLen v s).acc = s.acc := rfl
@[simp] theorem writeLen_cur (v : Word) (s : State) : (writeLen v s).cur = s.cur := rfl
@[simp] theorem writeLen_padCnt (v : Word) (s : State) : (writeLen v s).padCnt = s.padCnt := rfl
@[simp] theorem writeLen_mem (v : Word) (s : State) : (writeLen v s).mem = s.mem := rfl
@[simp] theorem writeLen_inFlight (v : Word) (s : State) : (writeLen v s).inFlight = s.inFlight := rfl
@[simp] theorem writeLen_draws (v : Word) (s : State) : (writeLen v s).draws = s.draws := rfl
@[simp] theorem writeLen_sched (v : Word) (s : State) : (writeLen v s).sched = s.sched := rfl
@[simp] theorem writeLen_hostProg (v : Word) (s : State) : (writeLen v s).hostProg = s.hostProg := rfl
@[simp] theorem writeLen_hostPc (v : Word) (s : State) : (writeLen v s).hostPc = s.hostPc := rfl
@[simp] theorem writeLen_hostTemps (v : Word) (s : State) : (writeLen v s).hostTemps = s.hostTemps := rfl

/-! ### writeArgA -/

@[simp] theorem writeArgA_cfg (v : Word) (s : State) : (writeArgA v s).cfg = s.cfg := rfl
@[simp] theorem writeArgA_cmd (v : Word) (s : State) : (writeArgA v s).cmd = s.cmd := rfl
@[simp] theorem writeArgA_code (v : Word) (s : State) : (writeArgA v s).code = s.code := rfl
@[simp] theorem writeArgA_busy (v : Word) (s : State) : (writeArgA v s).busy = s.busy := rfl
@[simp] theorem writeArgA_result (v : Word) (s : State) : (writeArgA v s).result = s.result := rfl
@[simp] theorem writeArgA_dest (v : Word) (s : State) : (writeArgA v s).dest = s.dest := rfl
@[simp] theorem writeArgA_src (v : Word) (s : State) : (writeArgA v s).src = s.src := rfl
@[simp] theorem writeArgA_len (v : Word) (s : State) : (writeArgA v s).len = s.len := rfl
@[simp] theorem writeArgA_argA (v : Word) (s : State) : (writeArgA v s).argA = v := rfl
@[simp] theorem writeArgA_argB (v : Word) (s : State) : (writeArgA v s).argB = s.argB := rfl
@[simp] theorem writeArgA_word0 (v : Word) (s : State) : (writeArgA v s).word0 = s.word0 := rfl
@[simp] theorem writeArgA_word1 (v : Word) (s : State) : (writeArgA v s).word1 = s.word1 := rfl
@[simp] theorem writeArgA_srcNull (v : Word) (s : State) : (writeArgA v s).srcNull = s.srcNull := rfl
@[simp] theorem writeArgA_latch (v : Word) (s : State) : (writeArgA v s).latch = s.latch := rfl
@[simp] theorem writeArgA_acc (v : Word) (s : State) : (writeArgA v s).acc = s.acc := rfl
@[simp] theorem writeArgA_cur (v : Word) (s : State) : (writeArgA v s).cur = s.cur := rfl
@[simp] theorem writeArgA_padCnt (v : Word) (s : State) : (writeArgA v s).padCnt = s.padCnt := rfl
@[simp] theorem writeArgA_mem (v : Word) (s : State) : (writeArgA v s).mem = s.mem := rfl
@[simp] theorem writeArgA_inFlight (v : Word) (s : State) : (writeArgA v s).inFlight = s.inFlight := rfl
@[simp] theorem writeArgA_draws (v : Word) (s : State) : (writeArgA v s).draws = s.draws := rfl
@[simp] theorem writeArgA_sched (v : Word) (s : State) : (writeArgA v s).sched = s.sched := rfl
@[simp] theorem writeArgA_hostProg (v : Word) (s : State) : (writeArgA v s).hostProg = s.hostProg := rfl
@[simp] theorem writeArgA_hostPc (v : Word) (s : State) : (writeArgA v s).hostPc = s.hostPc := rfl
@[simp] theorem writeArgA_hostTemps (v : Word) (s : State) : (writeArgA v s).hostTemps = s.hostTemps := rfl

/-! ### writeArgB -/

@[simp] theorem writeArgB_cfg (v : Word) (s : State) : (writeArgB v s).cfg = s.cfg := rfl
@[simp] theorem writeArgB_cmd (v : Word) (s : State) : (writeArgB v s).cmd = s.cmd := rfl
@[simp] theorem writeArgB_code (v : Word) (s : State) : (writeArgB v s).code = s.code := rfl
@[simp] theorem writeArgB_busy (v : Word) (s : State) : (writeArgB v s).busy = s.busy := rfl
@[simp] theorem writeArgB_result (v : Word) (s : State) : (writeArgB v s).result = s.result := rfl
@[simp] theorem writeArgB_dest (v : Word) (s : State) : (writeArgB v s).dest = s.dest := rfl
@[simp] theorem writeArgB_src (v : Word) (s : State) : (writeArgB v s).src = s.src := rfl
@[simp] theorem writeArgB_len (v : Word) (s : State) : (writeArgB v s).len = s.len := rfl
@[simp] theorem writeArgB_argA (v : Word) (s : State) : (writeArgB v s).argA = s.argA := rfl
@[simp] theorem writeArgB_argB (v : Word) (s : State) : (writeArgB v s).argB = byteAt v 0 := rfl
@[simp] theorem writeArgB_word0 (v : Word) (s : State) : (writeArgB v s).word0 = s.word0 := rfl
@[simp] theorem writeArgB_word1 (v : Word) (s : State) : (writeArgB v s).word1 = s.word1 := rfl
@[simp] theorem writeArgB_srcNull (v : Word) (s : State) : (writeArgB v s).srcNull = s.srcNull := rfl
@[simp] theorem writeArgB_latch (v : Word) (s : State) : (writeArgB v s).latch = s.latch := rfl
@[simp] theorem writeArgB_acc (v : Word) (s : State) : (writeArgB v s).acc = s.acc := rfl
@[simp] theorem writeArgB_cur (v : Word) (s : State) : (writeArgB v s).cur = s.cur := rfl
@[simp] theorem writeArgB_padCnt (v : Word) (s : State) : (writeArgB v s).padCnt = s.padCnt := rfl
@[simp] theorem writeArgB_mem (v : Word) (s : State) : (writeArgB v s).mem = s.mem := rfl
@[simp] theorem writeArgB_inFlight (v : Word) (s : State) : (writeArgB v s).inFlight = s.inFlight := rfl
@[simp] theorem writeArgB_draws (v : Word) (s : State) : (writeArgB v s).draws = s.draws := rfl
@[simp] theorem writeArgB_sched (v : Word) (s : State) : (writeArgB v s).sched = s.sched := rfl
@[simp] theorem writeArgB_hostProg (v : Word) (s : State) : (writeArgB v s).hostProg = s.hostProg := rfl
@[simp] theorem writeArgB_hostPc (v : Word) (s : State) : (writeArgB v s).hostPc = s.hostPc := rfl
@[simp] theorem writeArgB_hostTemps (v : Word) (s : State) : (writeArgB v s).hostTemps = s.hostTemps := rfl

/-! ### writeWord0 -/

@[simp] theorem writeWord0_cfg (v : Word) (s : State) : (writeWord0 v s).cfg = s.cfg := rfl
@[simp] theorem writeWord0_cmd (v : Word) (s : State) : (writeWord0 v s).cmd = s.cmd := rfl
@[simp] theorem writeWord0_code (v : Word) (s : State) : (writeWord0 v s).code = s.code := rfl
@[simp] theorem writeWord0_busy (v : Word) (s : State) : (writeWord0 v s).busy = s.busy := rfl
@[simp] theorem writeWord0_result (v : Word) (s : State) : (writeWord0 v s).result = s.result := rfl
@[simp] theorem writeWord0_dest (v : Word) (s : State) : (writeWord0 v s).dest = s.dest := rfl
@[simp] theorem writeWord0_src (v : Word) (s : State) : (writeWord0 v s).src = s.src := rfl
@[simp] theorem writeWord0_len (v : Word) (s : State) : (writeWord0 v s).len = s.len := rfl
@[simp] theorem writeWord0_argA (v : Word) (s : State) : (writeWord0 v s).argA = s.argA := rfl
@[simp] theorem writeWord0_argB (v : Word) (s : State) : (writeWord0 v s).argB = s.argB := rfl
@[simp] theorem writeWord0_word0 (v : Word) (s : State) : (writeWord0 v s).word0 = v := rfl
@[simp] theorem writeWord0_word1 (v : Word) (s : State) : (writeWord0 v s).word1 = s.word1 := rfl
@[simp] theorem writeWord0_srcNull (v : Word) (s : State) : (writeWord0 v s).srcNull = s.srcNull := rfl
@[simp] theorem writeWord0_latch (v : Word) (s : State) : (writeWord0 v s).latch = s.latch := rfl
@[simp] theorem writeWord0_acc (v : Word) (s : State) : (writeWord0 v s).acc = s.acc := rfl
@[simp] theorem writeWord0_cur (v : Word) (s : State) : (writeWord0 v s).cur = s.cur := rfl
@[simp] theorem writeWord0_padCnt (v : Word) (s : State) : (writeWord0 v s).padCnt = s.padCnt := rfl
@[simp] theorem writeWord0_mem (v : Word) (s : State) : (writeWord0 v s).mem = s.mem := rfl
@[simp] theorem writeWord0_inFlight (v : Word) (s : State) : (writeWord0 v s).inFlight = s.inFlight := rfl
@[simp] theorem writeWord0_draws (v : Word) (s : State) : (writeWord0 v s).draws = s.draws := rfl
@[simp] theorem writeWord0_sched (v : Word) (s : State) : (writeWord0 v s).sched = s.sched := rfl
@[simp] theorem writeWord0_hostProg (v : Word) (s : State) : (writeWord0 v s).hostProg = s.hostProg := rfl
@[simp] theorem writeWord0_hostPc (v : Word) (s : State) : (writeWord0 v s).hostPc = s.hostPc := rfl
@[simp] theorem writeWord0_hostTemps (v : Word) (s : State) : (writeWord0 v s).hostTemps = s.hostTemps := rfl

/-! ### writeWord1 -/

@[simp] theorem writeWord1_cfg (v : Word) (s : State) : (writeWord1 v s).cfg = s.cfg := rfl
@[simp] theorem writeWord1_cmd (v : Word) (s : State) : (writeWord1 v s).cmd = s.cmd := rfl
@[simp] theorem writeWord1_code (v : Word) (s : State) : (writeWord1 v s).code = s.code := rfl
@[simp] theorem writeWord1_busy (v : Word) (s : State) : (writeWord1 v s).busy = s.busy := rfl
@[simp] theorem writeWord1_result (v : Word) (s : State) : (writeWord1 v s).result = s.result := rfl
@[simp] theorem writeWord1_dest (v : Word) (s : State) : (writeWord1 v s).dest = s.dest := rfl
@[simp] theorem writeWord1_src (v : Word) (s : State) : (writeWord1 v s).src = s.src := rfl
@[simp] theorem writeWord1_len (v : Word) (s : State) : (writeWord1 v s).len = s.len := rfl
@[simp] theorem writeWord1_argA (v : Word) (s : State) : (writeWord1 v s).argA = s.argA := rfl
@[simp] theorem writeWord1_argB (v : Word) (s : State) : (writeWord1 v s).argB = s.argB := rfl
@[simp] theorem writeWord1_word0 (v : Word) (s : State) : (writeWord1 v s).word0 = s.word0 := rfl
@[simp] theorem writeWord1_word1 (v : Word) (s : State) : (writeWord1 v s).word1 = v := rfl
@[simp] theorem writeWord1_srcNull (v : Word) (s : State) : (writeWord1 v s).srcNull = s.srcNull := rfl
@[simp] theorem writeWord1_latch (v : Word) (s : State) : (writeWord1 v s).latch = s.latch := rfl
@[simp] theorem writeWord1_acc (v : Word) (s : State) : (writeWord1 v s).acc = s.acc := rfl
@[simp] theorem writeWord1_cur (v : Word) (s : State) : (writeWord1 v s).cur = s.cur := rfl
@[simp] theorem writeWord1_padCnt (v : Word) (s : State) : (writeWord1 v s).padCnt = s.padCnt := rfl
@[simp] theorem writeWord1_mem (v : Word) (s : State) : (writeWord1 v s).mem = s.mem := rfl
@[simp] theorem writeWord1_inFlight (v : Word) (s : State) : (writeWord1 v s).inFlight = s.inFlight := rfl
@[simp] theorem writeWord1_draws (v : Word) (s : State) : (writeWord1 v s).draws = s.draws := rfl
@[simp] theorem writeWord1_sched (v : Word) (s : State) : (writeWord1 v s).sched = s.sched := rfl
@[simp] theorem writeWord1_hostProg (v : Word) (s : State) : (writeWord1 v s).hostProg = s.hostProg := rfl
@[simp] theorem writeWord1_hostPc (v : Word) (s : State) : (writeWord1 v s).hostPc = s.hostPc := rfl
@[simp] theorem writeWord1_hostTemps (v : Word) (s : State) : (writeWord1 v s).hostTemps = s.hostTemps := rfl

/-! ### writeFlags -/

@[simp] theorem writeFlags_cfg (v : Word) (s : State) : (writeFlags v s).cfg = s.cfg := rfl
@[simp] theorem writeFlags_cmd (v : Word) (s : State) : (writeFlags v s).cmd = s.cmd := rfl
@[simp] theorem writeFlags_code (v : Word) (s : State) : (writeFlags v s).code = s.code := rfl
@[simp] theorem writeFlags_busy (v : Word) (s : State) : (writeFlags v s).busy = s.busy := rfl
@[simp] theorem writeFlags_result (v : Word) (s : State) : (writeFlags v s).result = s.result := rfl
@[simp] theorem writeFlags_dest (v : Word) (s : State) : (writeFlags v s).dest = s.dest := rfl
@[simp] theorem writeFlags_src (v : Word) (s : State) : (writeFlags v s).src = s.src := rfl
@[simp] theorem writeFlags_len (v : Word) (s : State) : (writeFlags v s).len = s.len := rfl
@[simp] theorem writeFlags_argA (v : Word) (s : State) : (writeFlags v s).argA = s.argA := rfl
@[simp] theorem writeFlags_argB (v : Word) (s : State) : (writeFlags v s).argB = s.argB := rfl
@[simp] theorem writeFlags_word0 (v : Word) (s : State) : (writeFlags v s).word0 = s.word0 := rfl
@[simp] theorem writeFlags_word1 (v : Word) (s : State) : (writeFlags v s).word1 = s.word1 := rfl
@[simp] theorem writeFlags_srcNull (v : Word) (s : State) : (writeFlags v s).srcNull = flagsKept v := rfl
@[simp] theorem writeFlags_latch (v : Word) (s : State) : (writeFlags v s).latch = s.latch := rfl
@[simp] theorem writeFlags_acc (v : Word) (s : State) : (writeFlags v s).acc = s.acc := rfl
@[simp] theorem writeFlags_cur (v : Word) (s : State) : (writeFlags v s).cur = s.cur := rfl
@[simp] theorem writeFlags_padCnt (v : Word) (s : State) : (writeFlags v s).padCnt = s.padCnt := rfl
@[simp] theorem writeFlags_mem (v : Word) (s : State) : (writeFlags v s).mem = s.mem := rfl
@[simp] theorem writeFlags_inFlight (v : Word) (s : State) : (writeFlags v s).inFlight = s.inFlight := rfl
@[simp] theorem writeFlags_draws (v : Word) (s : State) : (writeFlags v s).draws = s.draws := rfl
@[simp] theorem writeFlags_sched (v : Word) (s : State) : (writeFlags v s).sched = s.sched := rfl
@[simp] theorem writeFlags_hostProg (v : Word) (s : State) : (writeFlags v s).hostProg = s.hostProg := rfl
@[simp] theorem writeFlags_hostPc (v : Word) (s : State) : (writeFlags v s).hostPc = s.hostPc := rfl
@[simp] theorem writeFlags_hostTemps (v : Word) (s : State) : (writeFlags v s).hostTemps = s.hostTemps := rfl

/-! ### hostNext -/

@[simp] theorem hostNext_cfg (s : State) : (hostNext s).cfg = s.cfg := rfl
@[simp] theorem hostNext_cmd (s : State) : (hostNext s).cmd = s.cmd := rfl
@[simp] theorem hostNext_code (s : State) : (hostNext s).code = s.code := rfl
@[simp] theorem hostNext_busy (s : State) : (hostNext s).busy = s.busy := rfl
@[simp] theorem hostNext_result (s : State) : (hostNext s).result = s.result := rfl
@[simp] theorem hostNext_dest (s : State) : (hostNext s).dest = s.dest := rfl
@[simp] theorem hostNext_src (s : State) : (hostNext s).src = s.src := rfl
@[simp] theorem hostNext_len (s : State) : (hostNext s).len = s.len := rfl
@[simp] theorem hostNext_argA (s : State) : (hostNext s).argA = s.argA := rfl
@[simp] theorem hostNext_argB (s : State) : (hostNext s).argB = s.argB := rfl
@[simp] theorem hostNext_word0 (s : State) : (hostNext s).word0 = s.word0 := rfl
@[simp] theorem hostNext_word1 (s : State) : (hostNext s).word1 = s.word1 := rfl
@[simp] theorem hostNext_srcNull (s : State) : (hostNext s).srcNull = s.srcNull := rfl
@[simp] theorem hostNext_latch (s : State) : (hostNext s).latch = s.latch := rfl
@[simp] theorem hostNext_acc (s : State) : (hostNext s).acc = s.acc := rfl
@[simp] theorem hostNext_cur (s : State) : (hostNext s).cur = s.cur := rfl
@[simp] theorem hostNext_padCnt (s : State) : (hostNext s).padCnt = s.padCnt := rfl
@[simp] theorem hostNext_mem (s : State) : (hostNext s).mem = s.mem := rfl
@[simp] theorem hostNext_inFlight (s : State) : (hostNext s).inFlight = s.inFlight := rfl
@[simp] theorem hostNext_draws (s : State) : (hostNext s).draws = s.draws := rfl
@[simp] theorem hostNext_sched (s : State) : (hostNext s).sched = s.sched := rfl
@[simp] theorem hostNext_hostProg (s : State) : (hostNext s).hostProg = s.hostProg := rfl
@[simp] theorem hostNext_hostPc (s : State) : (hostNext s).hostPc = s.hostPc + 1 := rfl
@[simp] theorem hostNext_hostTemps (s : State) : (hostNext s).hostTemps = s.hostTemps := rfl

/-! ### hostJump -/

@[simp] theorem hostJump_cfg (k : Nat) (s : State) : (hostJump k s).cfg = s.cfg := rfl
@[simp] theorem hostJump_cmd (k : Nat) (s : State) : (hostJump k s).cmd = s.cmd := rfl
@[simp] theorem hostJump_code (k : Nat) (s : State) : (hostJump k s).code = s.code := rfl
@[simp] theorem hostJump_busy (k : Nat) (s : State) : (hostJump k s).busy = s.busy := rfl
@[simp] theorem hostJump_result (k : Nat) (s : State) : (hostJump k s).result = s.result := rfl
@[simp] theorem hostJump_dest (k : Nat) (s : State) : (hostJump k s).dest = s.dest := rfl
@[simp] theorem hostJump_src (k : Nat) (s : State) : (hostJump k s).src = s.src := rfl
@[simp] theorem hostJump_len (k : Nat) (s : State) : (hostJump k s).len = s.len := rfl
@[simp] theorem hostJump_argA (k : Nat) (s : State) : (hostJump k s).argA = s.argA := rfl
@[simp] theorem hostJump_argB (k : Nat) (s : State) : (hostJump k s).argB = s.argB := rfl
@[simp] theorem hostJump_word0 (k : Nat) (s : State) : (hostJump k s).word0 = s.word0 := rfl
@[simp] theorem hostJump_word1 (k : Nat) (s : State) : (hostJump k s).word1 = s.word1 := rfl
@[simp] theorem hostJump_srcNull (k : Nat) (s : State) : (hostJump k s).srcNull = s.srcNull := rfl
@[simp] theorem hostJump_latch (k : Nat) (s : State) : (hostJump k s).latch = s.latch := rfl
@[simp] theorem hostJump_acc (k : Nat) (s : State) : (hostJump k s).acc = s.acc := rfl
@[simp] theorem hostJump_cur (k : Nat) (s : State) : (hostJump k s).cur = s.cur := rfl
@[simp] theorem hostJump_padCnt (k : Nat) (s : State) : (hostJump k s).padCnt = s.padCnt := rfl
@[simp] theorem hostJump_mem (k : Nat) (s : State) : (hostJump k s).mem = s.mem := rfl
@[simp] theorem hostJump_inFlight (k : Nat) (s : State) : (hostJump k s).inFlight = s.inFlight := rfl
@[simp] theorem hostJump_draws (k : Nat) (s : State) : (hostJump k s).draws = s.draws := rfl
@[simp] theorem hostJump_sched (k : Nat) (s : State) : (hostJump k s).sched = s.sched := rfl
@[simp] theorem hostJump_hostProg (k : Nat) (s : State) : (hostJump k s).hostProg = s.hostProg := rfl
@[simp] theorem hostJump_hostPc (k : Nat) (s : State) : (hostJump k s).hostPc = k := rfl
@[simp] theorem hostJump_hostTemps (k : Nat) (s : State) : (hostJump k s).hostTemps = s.hostTemps := rfl

/-! ### setTemp -/

@[simp] theorem setTemp_cfg (t : Nat) (v : Int) (s : State) : (setTemp t v s).cfg = s.cfg := rfl
@[simp] theorem setTemp_cmd (t : Nat) (v : Int) (s : State) : (setTemp t v s).cmd = s.cmd := rfl
@[simp] theorem setTemp_code (t : Nat) (v : Int) (s : State) : (setTemp t v s).code = s.code := rfl
@[simp] theorem setTemp_busy (t : Nat) (v : Int) (s : State) : (setTemp t v s).busy = s.busy := rfl
@[simp] theorem setTemp_result (t : Nat) (v : Int) (s : State) : (setTemp t v s).result = s.result := rfl
@[simp] theorem setTemp_dest (t : Nat) (v : Int) (s : State) : (setTemp t v s).dest = s.dest := rfl
@[simp] theorem setTemp_src (t : Nat) (v : Int) (s : State) : (setTemp t v s).src = s.src := rfl
@[simp] theorem setTemp_len (t : Nat) (v : Int) (s : State) : (setTemp t v s).len = s.len := rfl
@[simp] theorem setTemp_argA (t : Nat) (v : Int) (s : State) : (setTemp t v s).argA = s.argA := rfl
@[simp] theorem setTemp_argB (t : Nat) (v : Int) (s : State) : (setTemp t v s).argB = s.argB := rfl
@[simp] theorem setTemp_word0 (t : Nat) (v : Int) (s : State) : (setTemp t v s).word0 = s.word0 := rfl
@[simp] theorem setTemp_word1 (t : Nat) (v : Int) (s : State) : (setTemp t v s).word1 = s.word1 := rfl
@[simp] theorem setTemp_srcNull (t : Nat) (v : Int) (s : State) : (setTemp t v s).srcNull = s.srcNull := rfl
@[simp] theorem setTemp_latch (t : Nat) (v : Int) (s : State) : (setTemp t v s).latch = s.latch := rfl
@[simp] theorem setTemp_acc (t : Nat) (v : Int) (s : State) : (setTemp t v s).acc = s.acc := rfl
@[simp] theorem setTemp_cur (t : Nat) (v : Int) (s : State) : (setTemp t v s).cur = s.cur := rfl
@[simp] theorem setTemp_padCnt (t : Nat) (v : Int) (s : State) : (setTemp t v s).padCnt = s.padCnt := rfl
@[simp] theorem setTemp_mem (t : Nat) (v : Int) (s : State) : (setTemp t v s).mem = s.mem := rfl
@[simp] theorem setTemp_inFlight (t : Nat) (v : Int) (s : State) : (setTemp t v s).inFlight = s.inFlight := rfl
@[simp] theorem setTemp_draws (t : Nat) (v : Int) (s : State) : (setTemp t v s).draws = s.draws := rfl
@[simp] theorem setTemp_sched (t : Nat) (v : Int) (s : State) : (setTemp t v s).sched = s.sched := rfl
@[simp] theorem setTemp_hostProg (t : Nat) (v : Int) (s : State) : (setTemp t v s).hostProg = s.hostProg := rfl
@[simp] theorem setTemp_hostPc (t : Nat) (v : Int) (s : State) : (setTemp t v s).hostPc = s.hostPc := rfl
@[simp] theorem setTemp_hostTemps (t : Nat) (v : Int) (s : State) : (setTemp t v s).hostTemps = writeTemp s.hostTemps t v := rfl

/-! ### storeMem -/

@[simp] theorem storeMem_cfg (a : Nat) (b : Byte) (s : State) : (storeMem a b s).cfg = s.cfg := rfl
@[simp] theorem storeMem_cmd (a : Nat) (b : Byte) (s : State) : (storeMem a b s).cmd = s.cmd := rfl
@[simp] theorem storeMem_code (a : Nat) (b : Byte) (s : State) : (storeMem a b s).code = s.code := rfl
@[simp] theorem storeMem_busy (a : Nat) (b : Byte) (s : State) : (storeMem a b s).busy = s.busy := rfl
@[simp] theorem storeMem_result (a : Nat) (b : Byte) (s : State) : (storeMem a b s).result = s.result := rfl
@[simp] theorem storeMem_dest (a : Nat) (b : Byte) (s : State) : (storeMem a b s).dest = s.dest := rfl
@[simp] theorem storeMem_src (a : Nat) (b : Byte) (s : State) : (storeMem a b s).src = s.src := rfl
@[simp] theorem storeMem_len (a : Nat) (b : Byte) (s : State) : (storeMem a b s).len = s.len := rfl
@[simp] theorem storeMem_argA (a : Nat) (b : Byte) (s : State) : (storeMem a b s).argA = s.argA := rfl
@[simp] theorem storeMem_argB (a : Nat) (b : Byte) (s : State) : (storeMem a b s).argB = s.argB := rfl
@[simp] theorem storeMem_word0 (a : Nat) (b : Byte) (s : State) : (storeMem a b s).word0 = s.word0 := rfl
@[simp] theorem storeMem_word1 (a : Nat) (b : Byte) (s : State) : (storeMem a b s).word1 = s.word1 := rfl
@[simp] theorem storeMem_srcNull (a : Nat) (b : Byte) (s : State) : (storeMem a b s).srcNull = s.srcNull := rfl
@[simp] theorem storeMem_latch (a : Nat) (b : Byte) (s : State) : (storeMem a b s).latch = s.latch := rfl
@[simp] theorem storeMem_acc (a : Nat) (b : Byte) (s : State) : (storeMem a b s).acc = s.acc := rfl
@[simp] theorem storeMem_cur (a : Nat) (b : Byte) (s : State) : (storeMem a b s).cur = s.cur := rfl
@[simp] theorem storeMem_padCnt (a : Nat) (b : Byte) (s : State) : (storeMem a b s).padCnt = s.padCnt := rfl
@[simp] theorem storeMem_mem (a : Nat) (b : Byte) (s : State) : (storeMem a b s).mem = s.mem.write a b := rfl
@[simp] theorem storeMem_inFlight (a : Nat) (b : Byte) (s : State) : (storeMem a b s).inFlight = s.inFlight := rfl
@[simp] theorem storeMem_draws (a : Nat) (b : Byte) (s : State) : (storeMem a b s).draws = s.draws := rfl
@[simp] theorem storeMem_sched (a : Nat) (b : Byte) (s : State) : (storeMem a b s).sched = s.sched := rfl
@[simp] theorem storeMem_hostProg (a : Nat) (b : Byte) (s : State) : (storeMem a b s).hostProg = s.hostProg := rfl
@[simp] theorem storeMem_hostPc (a : Nat) (b : Byte) (s : State) : (storeMem a b s).hostPc = s.hostPc := rfl
@[simp] theorem storeMem_hostTemps (a : Nat) (b : Byte) (s : State) : (storeMem a b s).hostTemps = s.hostTemps := rfl

/-! ### popTurn -/

@[simp] theorem popTurn_cfg (s : State) : (popTurn s).cfg = s.cfg := rfl
@[simp] theorem popTurn_cmd (s : State) : (popTurn s).cmd = s.cmd := rfl
@[simp] theorem popTurn_code (s : State) : (popTurn s).code = s.code := rfl
@[simp] theorem popTurn_busy (s : State) : (popTurn s).busy = s.busy := rfl
@[simp] theorem popTurn_result (s : State) : (popTurn s).result = s.result := rfl
@[simp] theorem popTurn_dest (s : State) : (popTurn s).dest = s.dest := rfl
@[simp] theorem popTurn_src (s : State) : (popTurn s).src = s.src := rfl
@[simp] theorem popTurn_len (s : State) : (popTurn s).len = s.len := rfl
@[simp] theorem popTurn_argA (s : State) : (popTurn s).argA = s.argA := rfl
@[simp] theorem popTurn_argB (s : State) : (popTurn s).argB = s.argB := rfl
@[simp] theorem popTurn_word0 (s : State) : (popTurn s).word0 = s.word0 := rfl
@[simp] theorem popTurn_word1 (s : State) : (popTurn s).word1 = s.word1 := rfl
@[simp] theorem popTurn_srcNull (s : State) : (popTurn s).srcNull = s.srcNull := rfl
@[simp] theorem popTurn_latch (s : State) : (popTurn s).latch = s.latch := rfl
@[simp] theorem popTurn_acc (s : State) : (popTurn s).acc = s.acc := rfl
@[simp] theorem popTurn_cur (s : State) : (popTurn s).cur = s.cur := rfl
@[simp] theorem popTurn_padCnt (s : State) : (popTurn s).padCnt = s.padCnt := rfl
@[simp] theorem popTurn_mem (s : State) : (popTurn s).mem = s.mem := rfl
@[simp] theorem popTurn_inFlight (s : State) : (popTurn s).inFlight = s.inFlight := rfl
@[simp] theorem popTurn_draws (s : State) : (popTurn s).draws = s.draws := rfl
@[simp] theorem popTurn_sched (s : State) : (popTurn s).sched = s.sched.tail := rfl
@[simp] theorem popTurn_hostProg (s : State) : (popTurn s).hostProg = s.hostProg := rfl
@[simp] theorem popTurn_hostPc (s : State) : (popTurn s).hostPc = s.hostPc := rfl
@[simp] theorem popTurn_hostTemps (s : State) : (popTurn s).hostTemps = s.hostTemps := rfl

/-! ### resetBlock -/

@[simp] theorem resetBlock_cfg (s : State) : (resetBlock s).cfg = s.cfg := rfl
@[simp] theorem resetBlock_cmd (s : State) : (resetBlock s).cmd = 0 := rfl
@[simp] theorem resetBlock_code (s : State) : (resetBlock s).code = .ok := rfl
@[simp] theorem resetBlock_busy (s : State) : (resetBlock s).busy = false := rfl
@[simp] theorem resetBlock_result (s : State) : (resetBlock s).result = 0 := rfl
@[simp] theorem resetBlock_dest (s : State) : (resetBlock s).dest = 0 := rfl
@[simp] theorem resetBlock_src (s : State) : (resetBlock s).src = 0 := rfl
@[simp] theorem resetBlock_len (s : State) : (resetBlock s).len = 0 := rfl
@[simp] theorem resetBlock_argA (s : State) : (resetBlock s).argA = 0 := rfl
@[simp] theorem resetBlock_argB (s : State) : (resetBlock s).argB = 0 := rfl
@[simp] theorem resetBlock_word0 (s : State) : (resetBlock s).word0 = 0 := rfl
@[simp] theorem resetBlock_word1 (s : State) : (resetBlock s).word1 = 0 := rfl
@[simp] theorem resetBlock_srcNull (s : State) : (resetBlock s).srcNull = false := rfl
@[simp] theorem resetBlock_latch (s : State) : (resetBlock s).latch = Latch.zero := rfl
@[simp] theorem resetBlock_acc (s : State) : (resetBlock s).acc = Config.freeAcc s.draws := rfl
@[simp] theorem resetBlock_cur (s : State) : (resetBlock s).cur = (Config.freeCur s.draws).val := rfl
@[simp] theorem resetBlock_padCnt (s : State) : (resetBlock s).padCnt = Config.freePadCnt s.draws := rfl
@[simp] theorem resetBlock_mem (s : State) : (resetBlock s).mem = scrambledMem s := rfl
@[simp] theorem resetBlock_inFlight (s : State) : (resetBlock s).inFlight = [] := rfl
@[simp] theorem resetBlock_draws (s : State) : (resetBlock s).draws = s.draws + (abandonedSpan s).size + 1 := rfl
@[simp] theorem resetBlock_sched (s : State) : (resetBlock s).sched = s.sched := rfl
@[simp] theorem resetBlock_hostProg (s : State) : (resetBlock s).hostProg = s.hostProg := rfl
@[simp] theorem resetBlock_hostPc (s : State) : (resetBlock s).hostPc = s.hostPc := rfl
@[simp] theorem resetBlock_hostTemps (s : State) : (resetBlock s).hostTemps = s.hostTemps := rfl

end Sys2Proof.Machine
end

