-- ==== Sys2Proof/Laws/Units.lean ====
section
/-! SUPPORT. The laws of the datapath units: `clog2`, `PAD`, `LC`, the checksum, and `NOK`'s bounds. -/

namespace Sys2Proof.Machine

/-- `clog2` meets its definition on its whole domain. -/
theorem clog2_isClog2 {n : Nat} (h1 : 1 ≤ n) (h : n ≤ 255) : IsClog2 n (clog2 n) := by
  have key : ∀ n : Fin 256, 1 ≤ n.val → n.val ≤ 2 ^ clog2 n.val ∧ ∀ j : Fin 9, j.val < clog2 n.val → 2 ^ j.val < n.val := by
    decide +kernel
  have hle : ∀ n : Fin 256, clog2 n.val ≤ 8 := by decide +kernel
  obtain ⟨ha, hb⟩ := key ⟨n, by omega⟩ h1
  have h8 := hle ⟨n, by omega⟩
  exact ⟨ha, fun j hj => hb ⟨j, by simp only at h8; omega⟩ hj⟩

/-- The least exponent is unique. -/
theorem IsClog2.unique {n k k' : Nat} (h : IsClog2 n k) (h' : IsClog2 n k') : k = k' := by
  rcases Nat.lt_trichotomy k k' with hlt | heq | hgt
  · exact absurd (h'.2 k hlt) (Nat.not_lt.2 h.1)
  · exact heq
  · exact absurd (h.2 k' hgt) (Nat.not_lt.2 h'.1)

theorem IsClog2.eq_clog2 {n k : Nat} (h1 : 1 ≤ n) (hn : n ≤ 255) (h : IsClog2 n k) : clog2 n = k :=
  (clog2_isClog2 h1 hn).unique h

theorem clog2_le (n : Nat) : clog2 n ≤ 8 := by
  have aux : ∀ f k v, clog2From f k v ≤ k + f := by
    intro f
    induction f with
    | zero => intro k v; exact le_rfl
    | succ f ih =>
      intro k v
      simp only [clog2From]
      split
      · omega
      · have := ih (k + 1) v
        omega
  simpa [clog2] using aux 8 0 n

theorem clog2_le_five {n : Nat} (h : n ≤ 32) : clog2 n ≤ 5 := by
  have : ∀ n : Fin 33, clog2 n.val ≤ 5 := by decide
  exact this ⟨n, by omega⟩

theorem le_padded {n : Nat} (h : n ≤ 255) : n ≤ padded n := by
  rcases Nat.eq_zero_or_pos n with rfl | h1
  · exact Nat.zero_le _
  · exact (clog2_isClog2 h1 h).1

theorem add_padCount {n : Nat} (h : n ≤ 255) : n + padCount n = padded n := by
  have := le_padded h
  unfold padCount
  omega

theorem padCount_le {n : Nat} (h : n ≤ 255) : padCount n ≤ 127 := by
  have : ∀ n : Fin 256, padCount n.val ≤ 127 := by decide +kernel
  exact this ⟨n, by omega⟩

theorem padded_le {n : Nat} (h : n ≤ 32) : padded n ≤ 32 := by
  have := Nat.pow_le_pow_right (show 0 < 2 by decide) (clog2_le_five h)
  simpa [padded] using this

theorem Latch.count_le (l : Latch) : l.count ≤ 255 := by
  have := l.len.isLt
  unfold Latch.count
  omega

/-! ### The checksum -/

@[simp] theorem xorAll_append (xs ys : List Byte) : xorAll (xs ++ ys) = xorAll xs ^^^ xorAll ys := by
  induction xs with
  | nil => simp [xorAll]
  | cons x xs ih => simp [xorAll, ih, BitVec.xor_assoc]

@[simp] theorem xorAll_zeros (k : Nat) : xorAll (zeros k) = 0 := by
  induction k with
  | zero => rfl
  | succ k ih => simpa [zeros, List.replicate_succ, xorAll] using ih

theorem foldl_engine (acc : Byte) (xs : List Byte) : xs.foldl engine acc = acc ^^^ xorAll xs := by
  induction xs generalizing acc with
  | nil => simp [xorAll]
  | cons x xs ih => rw [List.foldl_cons, ih, xorAll, engine, BitVec.xor_assoc]

/-- The unit's checksum is the XOR of 0xFF with every byte. -/
theorem checksum_eq_csumOf (xs : List Byte) : checksum xs = csumOf xs := foldl_engine _ xs

/-- "For every checksummed frame ... the XOR of all bytes of `F` is 0xFF" (R128). -/
theorem xorAll_frameBytes (xs : List Byte) : xorAll (frameBytes xs) = 0xFF := by
  have h : ∀ x : Byte, x ^^^ (0xFF ^^^ x ^^^ 0) = 0xFF := by decide +kernel
  rw [frameBytes, xorAll_append, checksum_eq_csumOf, csumOf]
  exact h _

@[simp] theorem length_frameBytes (xs : List Byte) : (frameBytes xs).length = xs.length + 1 := by
  simp [frameBytes]

@[simp] theorem length_zeros (k : Nat) : (zeros k).length = k := by simp [zeros]

@[simp] theorem length_le32 (w : Word) : (le32 w).length = 4 := rfl

@[simp] theorem length_sourceBytes (s : State) : (sourceBytes s).length = s.latch.count :=
  Memory.length_readRange _ _ _

end Sys2Proof.Machine
end

