-- ==== Sys2Proof/Laws/Emission.lean ====
section
/-! SUPPORT. What the byte-serial emission does, as one equation per operation: the bytes written, the cursor, the
accumulator and the padding counter (10_state.md R37 to R39, 40_primitives.md R124 to R126). -/

namespace Sys2Proof.Machine

/-- Emitting a list writes it at the cursor, steps the cursor by its length and folds it into `ACC`. -/
theorem emitBytes_eq (bs : List Byte) (s : State) :
    emitBytes bs s =
      { s with
        mem := s.mem.writeRange (s.latch.destAddr + s.cur) bs
        cur := s.cur + bs.length
        acc := s.acc ^^^ xorAll bs } := by
  induction bs generalizing s with
  | nil => simp [emitBytes, xorAll]
  | cons b bs ih =>
    rw [emitBytes, ih]
    simp [emitByte, emitRaw, foldByte, engine, Memory.writeRange, xorAll, BitVec.xor_assoc, Nat.add_assoc, Nat.add_comm 1]

/-- Folding a list changes `ACC` only. -/
theorem foldBytes_eq (bs : List Byte) (s : State) : foldBytes bs s = { s with acc := s.acc ^^^ xorAll bs } := by
  induction bs generalizing s with
  | nil => simp [foldBytes, xorAll]
  | cons b bs ih =>
    rw [foldBytes, ih]
    simp [foldByte, engine, xorAll, BitVec.xor_assoc]

/-- `k` rounds of padding write `k` zero bytes, leave `ACC` as it is and count `PADCNT` down by `k`. -/
theorem drainPad_eq (k : Nat) (s : State) :
    drainPad k s =
      { s with
        mem := s.mem.writeRange (s.latch.destAddr + s.cur) (zeros k)
        cur := s.cur + k
        padCnt := s.padCnt - BitVec.ofNat 8 k } := by
  induction k generalizing s with
  | zero => simp [drainPad, zeros]
  | succ k ih =>
    rw [drainPad, ih]
    simp [emitByte, emitRaw, foldByte, dropPad, engine, zeros, List.replicate_succ, Memory.writeRange,
      Nat.add_assoc, Nat.add_comm 1, BitVec.ofNat_add, BitVec.sub_sub]
    rw [BitVec.add_comm]

/-- The same for WPAD's bytes, which leave `ACC` alone altogether. -/
theorem drainPadRaw_eq (k : Nat) (s : State) :
    drainPadRaw k s =
      { s with
        mem := s.mem.writeRange (s.latch.destAddr + s.cur) (zeros k)
        cur := s.cur + k
        padCnt := s.padCnt - BitVec.ofNat 8 k } := by
  induction k generalizing s with
  | zero => simp [drainPadRaw, zeros]
  | succ k ih =>
    rw [drainPadRaw, ih]
    simp [emitRaw, dropPad, zeros, List.replicate_succ, Memory.writeRange, Nat.add_assoc, Nat.add_comm 1,
      BitVec.ofNat_add, BitVec.sub_sub]
    rw [BitVec.add_comm]

/-- The counter loaded with `p` orders exactly `p` rounds and ends at 0 (R39). -/
theorem runPad_loadPad {p : Nat} (hp : p ≤ 255) (s : State) :
    runPad (loadPad p s) =
      { s with
        mem := s.mem.writeRange (s.latch.destAddr + s.cur) (zeros p)
        cur := s.cur + p
        padCnt := 0 } := by
  have h : (BitVec.ofNat 8 p).toNat = p := by simp; omega
  rw [runPad, loadPad_padCnt, h, drainPad_eq]
  simp [loadPad]

theorem runPadRaw_loadPad {p : Nat} (hp : p ≤ 255) (s : State) :
    runPadRaw (loadPad p s) =
      { s with
        mem := s.mem.writeRange (s.latch.destAddr + s.cur) (zeros p)
        cur := s.cur + p
        padCnt := 0 } := by
  have h : (BitVec.ofNat 8 p).toNat = p := by simp; omega
  rw [runPadRaw, loadPad_padCnt, h, drainPadRaw_eq]
  simp [loadPad]

/-- The byte-serial datapath writes exactly R126's frame: the bytes, the padding and their checksum, in ascending order
from the cursor, and yields their number. -/
theorem emitFrame_eq (xs : List Byte) {p : Nat} (hp : p ≤ 255) (s : State) :
    emitFrame xs p s =
      ({ s with
          mem := s.mem.writeRange (s.latch.destAddr + s.cur) (frameBytes (xs ++ zeros p))
          cur := s.cur + (xs.length + p + 1)
          acc := checksum (xs ++ zeros p)
          padCnt := 0 }, xs.length + p + 1) := by
  rw [emitFrame, emitBytes_eq, runPad_loadPad hp]
  have hacc : csumSeed ^^^ xorAll xs = checksum (xs ++ zeros p) := by
    rw [checksum_eq_csumOf, csumOf, xorAll_append, xorAll_zeros]
    simp [csumSeed]
  simp [emitChecksum, emitRaw, seedAcc, frameBytes, Memory.writeRange_append, Memory.writeRange, Nat.add_assoc, hacc]

end Sys2Proof.Machine
end

