-- ==== Sys2Proof/Laws/Exec.lean ====
section
/-! SUPPORT. What each completion step does, once: `exec` always answers a next state, which is the failure of the first
failing check or ONE record update that names every field a success writes. -/

namespace Sys2Proof.Machine

/-- The bytes a checksummed frame of the command holds before its checksum: tag, body, padding (30_encoding.md R87). -/
def frameBody : Instr → State → List Byte
  | .cmdType, s => [tag s.cfg.cmdBase s.cfg.subType 1, s.latch.devType]
  | .cmdModes, s => [tag s.cfg.cmdBase s.cfg.subModes 2, s.latch.modes, s.latch.visible]
  | .cmdSpeed, s => tag s.cfg.cmdBase s.cfg.subSpeed 4 :: le32 s.latch.speed
  | .cmdSelect, s => [tag s.cfg.cmdBase s.cfg.subSelect 1, s.latch.mode]
  | .cmdWrite, s =>
    tag s.cfg.cmdBase s.cfg.subWrite s.latch.count :: sourceBytes s ++ zeros (padCount s.latch.count)
  | .infoName, s =>
    tag s.cfg.infoBase s.latch.mode s.latch.count :: infoNameSub :: sourceBytes s ++ zeros (padCount s.latch.count)
  | .infoSpan, s =>
    tag s.cfg.infoBase s.latch.mode 8 :: s.latch.spanType :: (le32 s.latch.lower ++ le32 s.latch.upper)
  | .infoSymbol, s =>
    tag s.cfg.infoBase s.latch.mode 8 :: infoSymbolSub :: sourceBytes s ++ zeros (symbolPadCount s.latch.count)
  | .infoFormat, s =>
    [tag s.cfg.infoBase s.latch.mode 4, infoFormatSub, s.latch.elems, s.latch.dtype, s.latch.width, s.latch.decimals]
  | .data, s =>
    tag s.cfg.dataBase s.latch.mode s.latch.count :: sourceBytes s ++ zeros (padCount s.latch.count)
  | .sys, _ => []
  | .csum, _ => []
  | .log2c, _ => []
  | .lcode, _ => []
  | .padsz, _ => []
  | .wpad, _ => []

/-- Every byte the command writes from `L.DEST` on when it completes with `OK`. -/
def bytesOf (i : Instr) (s : State) : List Byte :=
  if i ∈ checksummed then frameBytes (frameBody i s)
  else
    match i with
    | .sys => [sysTag s.cfg.sysBase s.latch.sig]
    | .wpad => zeros (padCount s.latch.count)
    | _ => []

/-- The value the command yields when it completes with `OK`. -/
def valueOf (i : Instr) (s : State) : Nat :=
  match i with
  | .csum => (checksum (sourceBytes s)).toNat
  | .log2c => clog2 s.latch.count
  | .lcode => (lengthCode s.latch.count).toNat
  | .padsz => padCount s.latch.count
  | i => (bytesOf i s).length

/-- `ACC` after the command completes with `OK`. -/
def accOf (i : Instr) (s : State) : Byte :=
  if i ∈ checksummed then checksum (frameBody i s)
  else
    match i with
    | .csum => checksum (sourceBytes s)
    | _ => s.acc

/-- `PADCNT` after the command completes with `OK`. -/
def padAfter (i : Instr) (s : State) : Byte :=
  match i with
  | .csum => s.padCnt
  | .log2c => s.padCnt
  | .lcode => s.padCnt
  | .padsz => s.padCnt
  | _ => 0

/-- The state after the command completes with `OK`. -/
def okState (i : Instr) (s : State) : State :=
  { s with
    mem := s.mem.writeRange s.latch.destAddr (bytesOf i s)
    cur := (bytesOf i s).length
    acc := accOf i s
    padCnt := padAfter i s
    result := BitVec.ofNat 32 (valueOf i s)
    code := .ok
    busy := false }

/-- The state after the command completes by `fail c`. -/
def failState (c : Code) (s : State) : State :=
  { s with cur := 0, result := sentinel, code := c, busy := false }

theorem completeWith_some (c : Code) (body : State → State × Nat) (s : State) :
    completeWith (some c) body s = failState c s := rfl

theorem sourceBytes_congr {s t : State} (hm : t.mem = s.mem) (hl : t.latch = s.latch) : sourceBytes t = sourceBytes s := by
  rw [sourceBytes, sourceBytes, hm, hl]

theorem bytesOf_checksummed {i : Instr} (hi : i ∈ checksummed) (s : State) : bytesOf i s = frameBytes (frameBody i s) := by
  unfold bytesOf
  exact if_pos hi

theorem accOf_checksummed {i : Instr} (hi : i ∈ checksummed) (s : State) : accOf i s = checksum (frameBody i s) := by
  unfold accOf
  exact if_pos hi

theorem valueOf_checksummed {i : Instr} (hi : i ∈ checksummed) (s : State) : valueOf i s = (bytesOf i s).length := by
  cases i <;> first | rfl | exact absurd hi (by decide)

theorem padAfter_checksummed {i : Instr} (hi : i ∈ checksummed) (s : State) : padAfter i s = 0 := by
  cases i <;> first | rfl | exact absurd hi (by decide)

/-- A command whose body emits `FRAME(xs ++ zeros(p))`, with `frameBody` as its bytes, completes in `okState`. -/
theorem completeWith_frame {i : Instr} (hi : i ∈ checksummed) (s : State) {body : State → State × Nat}
    (xs : List Byte) (p : Nat) (hp : p ≤ 255) (hx : frameBody i s = xs ++ zeros p)
    (hb : body (beginCommand s) = emitFrame xs p (beginCommand s)) : completeWith none body s = okState i s := by
  rw [completeWith, hb, emitFrame_eq xs hp, okState, bytesOf_checksummed hi, accOf_checksummed hi,
    valueOf_checksummed hi, bytesOf_checksummed hi, padAfter_checksummed hi, hx]
  simp [finishOk, beginCommand, Latch.destAddr]

theorem padCount_le_255 (s : State) : padCount s.latch.count ≤ 255 := (padCount_le s.latch.count_le).trans (by decide)

theorem symbolPad_le (s : State) : symbolPadCount s.latch.count ≤ 255 := by
  unfold symbolPadCount maxSymbol
  omega

/-- The two ends of a completion step. -/
def completion (chk : Option Code) (i : Instr) (s : State) : State :=
  match chk with
  | some c => failState c s
  | none => okState i s

theorem completeWith_eq {chk : Option Code} {body : State → State × Nat} {i : Instr} {s : State}
    (h : completeWith none body s = okState i s) : completeWith chk body s = completion chk i s := by
  cases chk with
  | some c => rfl
  | none => exact h

theorem execCmdType_eq (s : State) : execCmdType s = .next (completion (checksCmdType s.cfg s.latch) .cmdType s) := by
  unfold execCmdType
  exact congrArg Host.Outcome.next (completeWith_eq (completeWith_frame (i := .cmdType) (by decide) s _ _ (by decide) (List.append_nil _).symm rfl))

theorem execCmdModes_eq (s : State) : execCmdModes s = .next (completion (checksCmdModes s.cfg s.latch) .cmdModes s) := by
  unfold execCmdModes
  exact congrArg Host.Outcome.next (completeWith_eq (completeWith_frame (i := .cmdModes) (by decide) s _ _ (by decide) (List.append_nil _).symm rfl))

theorem execCmdSpeed_eq (s : State) : execCmdSpeed s = .next (completion (checksCmdSpeed s.cfg s.latch) .cmdSpeed s) := by
  unfold execCmdSpeed
  exact congrArg Host.Outcome.next (completeWith_eq (completeWith_frame (i := .cmdSpeed) (by decide) s _ _ (by decide) (List.append_nil _).symm rfl))

theorem execCmdSelect_eq (s : State) : execCmdSelect s = .next (completion (checksCmdSelect s.cfg s.latch) .cmdSelect s) := by
  unfold execCmdSelect
  exact congrArg Host.Outcome.next (completeWith_eq (completeWith_frame (i := .cmdSelect) (by decide) s _ _ (by decide) (List.append_nil _).symm rfl))

theorem execCmdWrite_eq (s : State) : execCmdWrite s = .next (completion (checksCmdWrite s.cfg s.latch) .cmdWrite s) := by
  unfold execCmdWrite
  exact congrArg Host.Outcome.next (completeWith_eq (completeWith_frame (i := .cmdWrite) (by decide) s _ _ (padCount_le_255 s) rfl rfl))

theorem execInfoName_eq (s : State) : execInfoName s = .next (completion (checksInfoName s.cfg s.latch) .infoName s) := by
  unfold execInfoName
  exact congrArg Host.Outcome.next (completeWith_eq (completeWith_frame (i := .infoName) (by decide) s _ _ (padCount_le_255 s) rfl rfl))

theorem execInfoSpan_eq (s : State) : execInfoSpan s = .next (completion (checksInfoSpan s.cfg s.latch) .infoSpan s) := by
  unfold execInfoSpan
  exact congrArg Host.Outcome.next (completeWith_eq (completeWith_frame (i := .infoSpan) (by decide) s _ _ (by decide) (List.append_nil _).symm rfl))

theorem execInfoSymbol_eq (s : State) : execInfoSymbol s = .next (completion (checksInfoSymbol s.cfg s.latch) .infoSymbol s) := by
  unfold execInfoSymbol
  exact congrArg Host.Outcome.next (completeWith_eq (completeWith_frame (i := .infoSymbol) (by decide) s _ _ (symbolPad_le s) rfl rfl))

theorem execInfoFormat_eq (s : State) : execInfoFormat s = .next (completion (checksInfoFormat s.cfg s.latch) .infoFormat s) := by
  unfold execInfoFormat
  exact congrArg Host.Outcome.next (completeWith_eq (completeWith_frame (i := .infoFormat) (by decide) s _ _ (by decide) (List.append_nil _).symm rfl))

theorem execData_eq (s : State) : execData s = .next (completion (checksData s.cfg s.latch) .data s) := by
  unfold execData
  exact congrArg Host.Outcome.next (completeWith_eq (completeWith_frame (i := .data) (by decide) s _ _ (padCount_le_255 s) rfl rfl))

theorem execSys_eq (s : State) : execSys s = .next (completion (checksSys s.cfg s.latch) .sys s) := by
  unfold execSys
  exact congrArg Host.Outcome.next (completeWith_eq rfl)

theorem execLog2c_eq (s : State) : execLog2c s = .next (completion (checksLog2c s.cfg s.latch) .log2c s) := by
  unfold execLog2c
  exact congrArg Host.Outcome.next (completeWith_eq rfl)

theorem execLcode_eq (s : State) : execLcode s = .next (completion (checksLcode s.cfg s.latch) .lcode s) := by
  unfold execLcode
  exact congrArg Host.Outcome.next (completeWith_eq rfl)

theorem execPadsz_eq (s : State) : execPadsz s = .next (completion (checksPadsz s.cfg s.latch) .padsz s) := by
  unfold execPadsz
  exact congrArg Host.Outcome.next (completeWith_eq rfl)

theorem execCsum_eq (s : State) : execCsum s = .next (completion (checksCsum s.cfg s.latch) .csum s) := by
  refine congrArg Host.Outcome.next (completeWith_eq ?_)
  have hsrc : sourceBytes (beginCommand s) = sourceBytes s := rfl
  have hacc : csumSeed ^^^ xorAll (sourceBytes s) = checksum (sourceBytes s) := (foldl_engine _ _).symm
  simp only [completeWith, foldBytes_eq, hsrc, seedAcc_acc, hacc]
  rfl

theorem execWpad_eq (s : State) : execWpad s = .next (completion (checksWpad s.cfg s.latch) .wpad s) := by
  refine congrArg Host.Outcome.next (completeWith_eq ?_)
  have hlen : valueOf .wpad s = padCount s.latch.count := length_zeros _
  have hcount : padCount (beginCommand s).latch.count = padCount s.latch.count := rfl
  simp only [completeWith, hcount, runPadRaw_loadPad (padCount_le_255 s), okState, hlen]
  simp [finishOk, beginCommand, bytesOf, checksummed, accOf, padAfter, Latch.destAddr]

/-- What a completion step answers: always a next state, the failure of the first failing check or the success. -/
theorem exec_eq (i : Instr) (s : State) : exec i s = .next (completion (checksOf i s.cfg s.latch) i s) := by
  cases i
  case sys => exact execSys_eq s
  case cmdType => exact execCmdType_eq s
  case cmdModes => exact execCmdModes_eq s
  case cmdSpeed => exact execCmdSpeed_eq s
  case cmdSelect => exact execCmdSelect_eq s
  case cmdWrite => exact execCmdWrite_eq s
  case infoName => exact execInfoName_eq s
  case infoSpan => exact execInfoSpan_eq s
  case infoSymbol => exact execInfoSymbol_eq s
  case infoFormat => exact execInfoFormat_eq s
  case data => exact execData_eq s
  case csum => exact execCsum_eq s
  case log2c => exact execLog2c_eq s
  case lcode => exact execLcode_eq s
  case padsz => exact execPadsz_eq s
  case wpad => exact execWpad_eq s

theorem completion_of_some {chk : Option Code} {c : Code} (h : chk = some c) (i : Instr) (s : State) :
    completion chk i s = failState c s := by rw [h]; rfl

theorem completion_of_none {chk : Option Code} (h : chk = none) (i : Instr) (s : State) :
    completion chk i s = okState i s := by rw [h]; rfl

/-- The bytes a command writes are as many as R127's table says, when its checks pass. -/
theorem length_bytesOf {i : Instr} {s : State} (h : checksOf i s.cfg s.latch = none) :
    (bytesOf i s).length = nok i s.latch.count := by
  have hpad := add_padCount s.latch.count_le
  cases i <;> simp [bytesOf, checksummed, frameBody, nok]
  case cmdWrite => omega
  case infoName => omega
  case data => omega
  case infoSymbol =>
    simp only [checksOf, checksInfoSymbol] at h
    split at h
    · cases h
    · rename_i hc
      have hn : ¬ s.latch.count > 8 := fun h => hc (by simp [lenOutside, maxSymbol, h])
      unfold symbolPadCount maxSymbol
      omega

end Sys2Proof.Machine
end

