-- ==== Sys2Proof/Laws/Checks.lean ====
section
/-! SUPPORT. What the checks let pass: `MEMCHECK` against `MemFits`, the commands' checks, and what a passed check says of
the footprints. -/

namespace Sys2Proof.Machine

/-- `MEMCHECK` passes exactly when both ranges lie inside `MEM` and apart. -/
theorem memCheck_none {s : State} {nw nr : Nat} (h : MemFits s nw nr) : memCheck s.cfg s.latch nw nr = none := by
  obtain ⟨h1, h2, h3⟩ := h
  unfold memCheck Latch.destAddr Latch.srcAddr
  rw [if_neg (by rintro ⟨a, b⟩; have := h1 a; omega), if_neg (by rintro ⟨a, b⟩; have := h2 a; omega),
    if_neg (by rintro ⟨a, b, c, d⟩; have := h3 a b; omega)]

/-- `MEMCHECK` fails with EMEM otherwise. -/
theorem memCheck_some {s : State} {nw nr : Nat} (h : ¬ MemFits s nw nr) :
    memCheck s.cfg s.latch nw nr = some .emem := by
  unfold memCheck Latch.destAddr Latch.srcAddr
  split
  · rfl
  · split
    · rfl
    · split
      · rfl
      · rename_i h1 h2 h3
        refine absurd ⟨fun a => ?_, fun a => ?_, fun a b => ?_⟩ h
        · by_contra hc
          exact h1 ⟨a, by omega⟩
        · by_contra hc
          exact h2 ⟨a, by omega⟩
        · by_contra hc
          exact h3 ⟨a, b, by omega, by omega⟩

theorem memFits_of_memCheck {s : State} {nw nr : Nat} (h : memCheck s.cfg s.latch nw nr = none) : MemFits s nw nr := by
  by_contra hc
  rw [memCheck_some hc] at h
  cases h

/-- `lenOutside` is the range test `[1, hi]`. -/
theorem lenOutside_eq_true {hi n : Nat} : lenOutside hi n = true ↔ n < 1 ∨ hi < n := by
  simp [lenOutside, minPayload]

theorem lenOutside_eq_false {hi n : Nat} : lenOutside hi n = false ↔ 1 ≤ n ∧ n ≤ hi := by
  rw [← Bool.not_eq_true, lenOutside_eq_true]
  omega

/-- A command whose checks pass writes and reads ranges that fit. -/
theorem memFits_of_checks {i : Instr} {s : State} (h : checksOf i s.cfg s.latch = none) :
    MemFits s (nok i s.latch.count) (readCount i s.latch.count) := by
  have free : MemFits s 0 0 := ⟨by simp, by simp, by simp⟩
  cases i <;> simp only [checksOf] at h
  case sys => exact memFits_of_memCheck h
  case cmdType => exact memFits_of_memCheck h
  case cmdModes => exact memFits_of_memCheck h
  case cmdSpeed => exact memFits_of_memCheck h
  case cmdSelect => exact memFits_of_memCheck h
  case cmdWrite =>
    unfold checksCmdWrite at h
    split at h
    · cases h
    · split at h
      · cases h
      · exact memFits_of_memCheck h
  case infoName =>
    unfold checksInfoName at h
    split at h
    · cases h
    · exact memFits_of_memCheck h
  case infoSpan => exact memFits_of_memCheck h
  case infoSymbol =>
    unfold checksInfoSymbol at h
    split at h
    · cases h
    · exact memFits_of_memCheck h
  case infoFormat => exact memFits_of_memCheck h
  case data =>
    unfold checksData at h
    split at h
    · cases h
    · split at h
      · cases h
      · exact memFits_of_memCheck h
  case csum =>
    unfold checksCsum at h
    split at h
    · cases h
    · exact memFits_of_memCheck h
  case log2c => exact free
  case lcode => exact free
  case padsz => exact free
  case wpad =>
    unfold checksWpad at h
    split at h
    · cases h
    · exact memFits_of_memCheck h

/-- An encoder whose checks pass writes 1 to 35 bytes, WPAD at most 127. -/
theorem nok_le {i : Instr} {s : State} (h : checksOf i s.cfg s.latch = none) :
    nok i s.latch.count ≤ 127 ∧ (i ∈ encoders → 1 ≤ nok i s.latch.count ∧ nok i s.latch.count ≤ 35) := by
  have h32 : s.latch.count ≤ 32 → padded s.latch.count ≤ 32 := padded_le
  have small : ∀ {hi}, hi ≤ 32 → lenOutside hi s.latch.count = false → padded s.latch.count ≤ 32 := fun hh hl =>
    h32 ((lenOutside_eq_false.1 hl).2.trans hh)
  cases i <;> simp only [checksOf] at h
  case cmdWrite =>
    unfold checksCmdWrite at h
    split at h
    · cases h
    · rename_i hl
      have := small (by decide) (Bool.not_eq_true _ ▸ hl)
      simp only [nok]
      omega
  case infoName =>
    unfold checksInfoName at h
    split at h
    · cases h
    · rename_i hl
      simp only [Bool.or_eq_true, not_or, Bool.not_eq_true] at hl
      have := small (by decide) hl.1
      simp only [nok]
      omega
  case data =>
    unfold checksData at h
    split at h
    · cases h
    · rename_i hl
      have := small (by decide) (Bool.not_eq_true _ ▸ hl)
      simp only [nok]
      omega
  case wpad => exact ⟨padCount_le s.latch.count_le, fun hc => absurd hc (by decide)⟩
  all_goals exact ⟨by simp [nok], fun _ => by simp [nok] <;> simp_all [encoders]⟩

/-- A command that reads no source has nothing to read. -/
theorem readCount_eq (i : Instr) (n : Nat) : readCount i n = if i ∈ readers then n else 0 := by
  cases i <;> rfl

theorem nok_not_writer {i : Instr} (h : i ∉ writers) (n : Nat) : nok i n = 0 := by
  cases i <;> first | rfl | exact absurd (by decide) h

/-- The footprints of a latched command: by its checks. -/
theorem footprint_of_decode {c : Config} {l : Latch} {i : Instr} (h : decode l.w = .ok i) :
    footprint c l = match checksOf i c l with
      | some _ => Footprint.empty
      | none => ⟨⟨l.destAddr, nok i l.count⟩, ⟨l.srcAddr, readCount i l.count⟩⟩ := by
  cases hc : checksOf i c l <;> simp only [footprint, h, hc]

theorem Span.has_iff (r : Span) (a : Nat) : r.has a = true ↔ r.base ≤ a ∧ a < r.base + r.size := by
  simp [Span.has]

/-- Every byte of a write footprint lies in `MEM`. -/
theorem footprint_wf_inside {s : State} {a : Nat} (h : (footprint s.cfg s.latch).wf.has a = true) :
    a < s.cfg.memSize := by
  rw [Span.has_iff] at h
  cases hd : decode s.latch.w with
  | error r => simp [footprint, hd, Footprint.empty] at h
  | ok i =>
    rw [footprint_of_decode hd] at h
    cases hc : checksOf i s.cfg s.latch with
    | some c => simp [hc, Footprint.empty] at h
    | none =>
      simp only [hc] at h
      have := (memFits_of_checks hc).1 (by omega)
      unfold Latch.destAddr at h
      omega

end Sys2Proof.Machine
end

