-- ==== Sys2Proof/Laws/PerInstr.lean ====
section
/-! SUPPORT. The family `TableEncoding`: what holds of every command as syntax, one lemma per constructor. -/

open Sys2Proof

/-- The command's word decodes to the command, has `RSV = 0` and an `OP` below 0x10 (30_encoding.md R80, R81). -/
def Sys2Proof.Laws.TableEncoding.Statement (i : Instr) : Prop :=
  decode (encode i) = .ok i ∧ rsvField (encode i) = 0 ∧ opField (encode i) < 0x10

theorem Sys2Proof.Laws.TableEncoding.sys : TableEncoding.Statement .sys := ⟨rfl, by decide, by decide⟩
theorem Sys2Proof.Laws.TableEncoding.cmdType : TableEncoding.Statement .cmdType := ⟨rfl, by decide, by decide⟩
theorem Sys2Proof.Laws.TableEncoding.cmdModes : TableEncoding.Statement .cmdModes := ⟨rfl, by decide, by decide⟩
theorem Sys2Proof.Laws.TableEncoding.cmdSpeed : TableEncoding.Statement .cmdSpeed := ⟨rfl, by decide, by decide⟩
theorem Sys2Proof.Laws.TableEncoding.cmdSelect : TableEncoding.Statement .cmdSelect := ⟨rfl, by decide, by decide⟩
theorem Sys2Proof.Laws.TableEncoding.cmdWrite : TableEncoding.Statement .cmdWrite := ⟨rfl, by decide, by decide⟩
theorem Sys2Proof.Laws.TableEncoding.infoName : TableEncoding.Statement .infoName := ⟨rfl, by decide, by decide⟩
theorem Sys2Proof.Laws.TableEncoding.infoSpan : TableEncoding.Statement .infoSpan := ⟨rfl, by decide, by decide⟩
theorem Sys2Proof.Laws.TableEncoding.infoSymbol : TableEncoding.Statement .infoSymbol := ⟨rfl, by decide, by decide⟩
theorem Sys2Proof.Laws.TableEncoding.infoFormat : TableEncoding.Statement .infoFormat := ⟨rfl, by decide, by decide⟩
theorem Sys2Proof.Laws.TableEncoding.data : TableEncoding.Statement .data := ⟨rfl, by decide, by decide⟩
theorem Sys2Proof.Laws.TableEncoding.csum : TableEncoding.Statement .csum := ⟨rfl, by decide, by decide⟩
theorem Sys2Proof.Laws.TableEncoding.log2c : TableEncoding.Statement .log2c := ⟨rfl, by decide, by decide⟩
theorem Sys2Proof.Laws.TableEncoding.lcode : TableEncoding.Statement .lcode := ⟨rfl, by decide, by decide⟩
theorem Sys2Proof.Laws.TableEncoding.padsz : TableEncoding.Statement .padsz := ⟨rfl, by decide, by decide⟩
theorem Sys2Proof.Laws.TableEncoding.wpad : TableEncoding.Statement .wpad := ⟨rfl, by decide, by decide⟩
end

