-- ==== Sys2Proof/Laws/Step.lean ====
section
/-! SUPPORT. What one step can do, once: the three turns, the framer's two completions, the host's operations. -/

namespace Sys2Proof.Machine

/-- A step that answers a next state ran one of the three turns. -/
theorem step_next_cases {s t : State} (h : step s = .next t) :
    (nextTurn s = .host ∧ hostTurn (popTurn s) = .next t) ∨
    (nextTurn s = .framer ∧ framerTurn (popTurn s) = .next t) ∨
    (nextTurn s = .reset ∧ t = resetBlock (popTurn s)) := by
  unfold step at h
  split at h
  · cases hn : nextTurn s <;> simp only [hn] at h
    · exact .inl ⟨rfl, h⟩
    · exact .inr (.inl ⟨rfl, h⟩)
    · exact .inr (.inr ⟨rfl, by injection h with h; exact h.symm⟩)
  · cases h

/-- Who moves when the schedule's head is given. -/
theorem nextTurn_of_head {s : State} {u : Turn} (h : s.sched.head? = some u) : nextTurn s = u := by
  unfold nextTurn
  cases hs : s.sched with
  | nil => simp [hs] at h
  | cons v rest =>
    simp [hs] at h
    exact h

/-- A busy block with nothing scheduled moves. -/
theorem nextTurn_busy {s : State} (h : s.sched = [] ∨ s.sched.head? = some .framer) (hb : s.busy = true) :
    nextTurn s = .framer := by
  rcases h with h | h
  · simp [nextTurn, h, hb]
  · exact nextTurn_of_head h

/-- The framer's step always answers a next state: a failure, or the success of the latched command. -/
theorem framerStep_cases (s : State) :
    (∃ c, c ≠ .ok ∧ framerStep s = .next (failState c s)) ∨
    ∃ i, decode s.latch.w = .ok i ∧ checksOf i s.cfg s.latch = none ∧ framerStep s = .next (okState i s) := by
  unfold framerStep fetch
  cases hd : decode s.latch.w with
  | error r => exact .inl ⟨.eop, by decide, rfl⟩
  | ok i =>
    simp only [exec_eq]
    cases hc : checksOf i s.cfg s.latch with
    | none => exact .inr ⟨i, rfl, hc, rfl⟩
    | some c =>
      refine .inl ⟨c, fun e => ?_, rfl⟩
      have mc : ∀ nw nr, memCheck s.cfg s.latch nw nr ≠ some .ok := by
        intro nw nr h
        unfold memCheck at h
        split at h
        · cases h
        · split at h
          · cases h
          · split at h <;> cases h
      subst e
      cases i <;>
        simp only [checksOf, checksSys, checksCmdType, checksCmdModes, checksCmdSpeed, checksCmdSelect, checksCmdWrite,
          checksInfoName, checksInfoSpan, checksInfoSymbol, checksInfoFormat, checksData, checksCsum, checksLog2c,
          checksLcode, checksPadsz, checksWpad] at hc <;>
        (repeat' split at hc) <;> first | exact mc _ _ hc | cases hc

/-- What a register write can do: nothing, start a command in an idle block, or set one operand register. -/
theorem writeOffset_cases (o : Nat) (v : Word) (s : State) :
    writeOffset o v s = s ∨ (o = 0x00 ∧ s.busy = false ∧ writeOffset o v s = acceptCommand v s) ∨
    writeOffset o v s = writeDest v s ∨ writeOffset o v s = writeSrc v s ∨ writeOffset o v s = writeLen v s ∨
    writeOffset o v s = writeArgA v s ∨ writeOffset o v s = writeArgB v s ∨ writeOffset o v s = writeWord0 v s ∨
    writeOffset o v s = writeWord1 v s ∨ writeOffset o v s = writeFlags v s := by
  cases hr : regAt o with
  | none => exact .inl (by simp only [writeOffset, hr])
  | some r =>
    have hw : writeOffset o v s = writeReg r v s := by simp only [writeOffset, hr]
    rw [hw]
    cases r <;> simp only [writeReg, true_or, or_true]
    cases hb : s.busy
    · refine .inr (.inl ⟨?_, rfl, by simp [writeCmd, hb]⟩)
      unfold regAt at hr
      split at hr <;> simp_all
    · exact .inl (by simp [writeCmd, hb])

/-- What a register read does to the state: it sets the temporary, and a `STATUS` read that sees `BUSY = 0` ends every
flight. -/
theorem observe_cases (o : Nat) (s : State) :
    observe o s = s ∨ (s.busy = false ∧ observe o s = { s with inFlight := [] }) := by
  unfold observe
  split
  · rename_i h
    exact .inr ⟨h.2, rfl⟩
  · exact .inl rfl

/-- The host operations that answer a next state, by what they do. -/
theorem hostAct_next_cases {op : HostOp} {s t : State} (h : hostAct op s = .next t) :
    (∃ o v, t = hostNext (writeOffset o v s)) ∨
    (∃ o x v, t = hostNext (observe o (setTemp x v s))) ∨
    (∃ a b, a < s.cfg.memSize ∧ writeHazard s.inFlight a = false ∧ t = hostNext (storeMem a b s)) ∨
    (∃ x v, t = hostNext (setTemp x v s)) ∨
    t = hostNext s ∨ ∃ k, t = hostJump k s := by
  cases op with
  | write o w v =>
    simp only [hostAct, hostWrite] at h
    split at h
    · cases h
    · injection h with h
      exact .inl ⟨_, _, h.symm⟩
  | read o w x =>
    simp only [hostAct, hostRead] at h
    split at h
    · cases h
    · injection h with h
      exact .inr (.inl ⟨_, _, _, h.symm⟩)
  | storeByte a v =>
    simp only [hostAct, hostStore] at h
    split at h
    · cases h
    · rename_i hin
      split at h
      · cases h
      · rename_i hz
        injection h with h
        simp only [inMem, Bool.not_eq_true, Bool.not_eq_false', Bool.and_eq_true, decide_eq_true_eq] at hin
        exact .inr (.inr (.inl ⟨_, _, by omega, by simpa using hz, h.symm⟩))
  | loadByte a x =>
    simp only [hostAct, hostLoad] at h
    split at h
    · cases h
    · split at h
      · cases h
      · injection h with h
        exact .inr (.inr (.inr (.inl ⟨_, _, h.symm⟩)))
  | assign x e =>
    injection h with h
    exact .inr (.inr (.inr (.inl ⟨_, _, h.symm⟩)))
  | label l =>
    injection h with h
    exact .inr (.inr (.inr (.inr (.inl h.symm))))
  | ifGoto c l =>
    simp only [hostAct, hostBranch] at h
    split at h
    · split at h
      · injection h with h
        exact .inr (.inr (.inr (.inr (.inr ⟨_, h.symm⟩))))
      · cases h
    · injection h with h
      exact .inr (.inr (.inr (.inr (.inl h.symm))))

/-- A supported register access reaches its offset. -/
theorem registerSlot_ok {c : Config} {o : Nat} (ho : o < 64) (h4 : o % 4 = 0) :
    registerSlot c (c.framerBase + o) 4 = .ok o := by
  have h : c.framerBase + o - c.framerBase = o := by omega
  unfold registerSlot
  rw [if_neg (by omega), if_neg (by simp), h, if_neg (by simpa using h4)]

/-- An integer that is a 32-bit word is carried as it is. -/
@[simp] theorem busWord_toNat (w : Word) : busWord (w.toNat : Int) = w := by
  have h := w.isLt
  unfold busWord
  rw [if_pos ⟨by omega, by omega⟩]
  simp

@[simp] theorem busByte_toNat (b : Byte) : busByte (b.toNat : Int) = b := by
  have h := b.isLt
  unfold busByte
  rw [if_pos ⟨by omega, by omega⟩]
  simp

/-! ### Temporaries -/

/-- A temporary holds what was last set. -/
theorem readTemp_writeTemp (ts : List (Nat × Int)) (x : Nat) (v : Int) : readTemp (writeTemp ts x v) x = v := by
  induction ts with
  | nil => simp [writeTemp, readTemp]
  | cons p ts ih =>
    obtain ⟨y, w⟩ := p
    simp only [writeTemp]
    split
    · simp [readTemp]
    · split
      · simp [readTemp]
      · rename_i h
        simp [readTemp, h, ih]

/-- Setting a temporary leaves every other one alone. -/
theorem readTemp_writeTemp_of_ne (ts : List (Nat × Int)) {x y : Nat} (v : Int) (h : y ≠ x) :
    readTemp (writeTemp ts x v) y = readTemp ts y := by
  induction ts with
  | nil => simp [writeTemp, readTemp, h]
  | cons p ts ih =>
    obtain ⟨z, w⟩ := p
    simp only [writeTemp]
    split
    · simp [readTemp, h]
    · split
      · rename_i hz
        simp [readTemp, h, ← hz]
      · simp only [readTemp, ih]

theorem mem_writeTemp {ts : List (Nat × Int)} {x y : Nat} {v : Int} (h : y ∈ (writeTemp ts x v).map Prod.fst) :
    y = x ∨ y ∈ ts.map Prod.fst := by
  induction ts with
  | nil => simpa [writeTemp] using h
  | cons p ts ih =>
    obtain ⟨z, w⟩ := p
    simp only [writeTemp] at h
    split at h
    · simpa using h
    · split at h
      · simp only [List.map_cons, List.mem_cons] at h ⊢
        tauto
      · simp only [List.map_cons, List.mem_cons] at h ⊢
        rcases h with h | h
        · exact .inr (.inl h)
        · rcases ih h with h | h
          · exact .inl h
          · exact .inr (.inr h)

/-- Setting a temporary keeps the numbers rising. -/
theorem writeTemp_rising {ts : List (Nat × Int)} (x : Nat) (v : Int) (h : (ts.map Prod.fst).Pairwise (· < ·)) :
    ((writeTemp ts x v).map Prod.fst).Pairwise (· < ·) := by
  induction ts with
  | nil => simp [writeTemp]
  | cons p ts ih =>
    obtain ⟨z, w⟩ := p
    simp only [List.map_cons, List.pairwise_cons] at h
    simp only [writeTemp]
    split
    · rename_i hx
      simp only [List.map_cons, List.pairwise_cons, List.mem_cons]
      exact ⟨fun y hy => hy.elim (fun e => e ▸ hx) (fun hy => hx.trans (h.1 y hy)), h.1, h.2⟩
    · split
      · rename_i hx
        simp only [List.map_cons, List.pairwise_cons]
        exact ⟨hx ▸ h.1, h.2⟩
      · rename_i hx hne
        simp only [List.map_cons, List.pairwise_cons]
        refine ⟨fun y hy => ?_, ih h.2⟩
        rcases mem_writeTemp hy with rfl | hy
        · omega
        · exact h.1 y hy

/-- Resetting writes no byte outside the abandoned footprint. -/
@[simp] theorem length_freeBytes (d k : Nat) : (freeBytes d k).length = k := by
  induction k generalizing d with
  | zero => rfl
  | succ k ih => simp [freeBytes, ih]

end Sys2Proof.Machine
end

