-- ==== Sys2Proof/Laws/Platform.lean ====
section
/-! SUPPORT. The platform layer: one lemma per field of an instance lent and parked, and what a platform step can do. -/

namespace Sys2Proof.Machine

/-! ### attach -/

@[simp] theorem attach_cfg (m : Memory) (s : State) : (attach m s).cfg = s.cfg := rfl
@[simp] theorem attach_cmd (m : Memory) (s : State) : (attach m s).cmd = s.cmd := rfl
@[simp] theorem attach_code (m : Memory) (s : State) : (attach m s).code = s.code := rfl
@[simp] theorem attach_busy (m : Memory) (s : State) : (attach m s).busy = s.busy := rfl
@[simp] theorem attach_result (m : Memory) (s : State) : (attach m s).result = s.result := rfl
@[simp] theorem attach_dest (m : Memory) (s : State) : (attach m s).dest = s.dest := rfl
@[simp] theorem attach_src (m : Memory) (s : State) : (attach m s).src = s.src := rfl
@[simp] theorem attach_len (m : Memory) (s : State) : (attach m s).len = s.len := rfl
@[simp] theorem attach_argA (m : Memory) (s : State) : (attach m s).argA = s.argA := rfl
@[simp] theorem attach_argB (m : Memory) (s : State) : (attach m s).argB = s.argB := rfl
@[simp] theorem attach_word0 (m : Memory) (s : State) : (attach m s).word0 = s.word0 := rfl
@[simp] theorem attach_word1 (m : Memory) (s : State) : (attach m s).word1 = s.word1 := rfl
@[simp] theorem attach_srcNull (m : Memory) (s : State) : (attach m s).srcNull = s.srcNull := rfl
@[simp] theorem attach_latch (m : Memory) (s : State) : (attach m s).latch = s.latch := rfl
@[simp] theorem attach_acc (m : Memory) (s : State) : (attach m s).acc = s.acc := rfl
@[simp] theorem attach_cur (m : Memory) (s : State) : (attach m s).cur = s.cur := rfl
@[simp] theorem attach_padCnt (m : Memory) (s : State) : (attach m s).padCnt = s.padCnt := rfl
@[simp] theorem attach_mem (m : Memory) (s : State) : (attach m s).mem = m := rfl
@[simp] theorem attach_inFlight (m : Memory) (s : State) : (attach m s).inFlight = s.inFlight := rfl
@[simp] theorem attach_draws (m : Memory) (s : State) : (attach m s).draws = s.draws := rfl
@[simp] theorem attach_sched (m : Memory) (s : State) : (attach m s).sched = s.sched := rfl
@[simp] theorem attach_hostProg (m : Memory) (s : State) : (attach m s).hostProg = s.hostProg := rfl
@[simp] theorem attach_hostPc (m : Memory) (s : State) : (attach m s).hostPc = s.hostPc := rfl
@[simp] theorem attach_hostTemps (m : Memory) (s : State) : (attach m s).hostTemps = s.hostTemps := rfl

/-! ### Platform.lend -/

@[simp] theorem Platform.lend_cfg (p : Platform) (s : State) : (p.lend s).cfg = s.cfg := rfl
@[simp] theorem Platform.lend_cmd (p : Platform) (s : State) : (p.lend s).cmd = s.cmd := rfl
@[simp] theorem Platform.lend_code (p : Platform) (s : State) : (p.lend s).code = s.code := rfl
@[simp] theorem Platform.lend_busy (p : Platform) (s : State) : (p.lend s).busy = s.busy := rfl
@[simp] theorem Platform.lend_result (p : Platform) (s : State) : (p.lend s).result = s.result := rfl
@[simp] theorem Platform.lend_dest (p : Platform) (s : State) : (p.lend s).dest = s.dest := rfl
@[simp] theorem Platform.lend_src (p : Platform) (s : State) : (p.lend s).src = s.src := rfl
@[simp] theorem Platform.lend_len (p : Platform) (s : State) : (p.lend s).len = s.len := rfl
@[simp] theorem Platform.lend_argA (p : Platform) (s : State) : (p.lend s).argA = s.argA := rfl
@[simp] theorem Platform.lend_argB (p : Platform) (s : State) : (p.lend s).argB = s.argB := rfl
@[simp] theorem Platform.lend_word0 (p : Platform) (s : State) : (p.lend s).word0 = s.word0 := rfl
@[simp] theorem Platform.lend_word1 (p : Platform) (s : State) : (p.lend s).word1 = s.word1 := rfl
@[simp] theorem Platform.lend_srcNull (p : Platform) (s : State) : (p.lend s).srcNull = s.srcNull := rfl
@[simp] theorem Platform.lend_latch (p : Platform) (s : State) : (p.lend s).latch = s.latch := rfl
@[simp] theorem Platform.lend_acc (p : Platform) (s : State) : (p.lend s).acc = s.acc := rfl
@[simp] theorem Platform.lend_cur (p : Platform) (s : State) : (p.lend s).cur = s.cur := rfl
@[simp] theorem Platform.lend_padCnt (p : Platform) (s : State) : (p.lend s).padCnt = s.padCnt := rfl
@[simp] theorem Platform.lend_mem (p : Platform) (s : State) : (p.lend s).mem = p.mem := rfl
@[simp] theorem Platform.lend_inFlight (p : Platform) (s : State) : (p.lend s).inFlight = s.inFlight := rfl
@[simp] theorem Platform.lend_draws (p : Platform) (s : State) : (p.lend s).draws = p.draws := rfl
@[simp] theorem Platform.lend_sched (p : Platform) (s : State) : (p.lend s).sched = s.sched := rfl
@[simp] theorem Platform.lend_hostProg (p : Platform) (s : State) : (p.lend s).hostProg = s.hostProg := rfl
@[simp] theorem Platform.lend_hostPc (p : Platform) (s : State) : (p.lend s).hostPc = s.hostPc := rfl
@[simp] theorem Platform.lend_hostTemps (p : Platform) (s : State) : (p.lend s).hostTemps = s.hostTemps := rfl

/-! ### park -/

@[simp] theorem park_cfg (s : State) : (park s).cfg = s.cfg := rfl
@[simp] theorem park_cmd (s : State) : (park s).cmd = s.cmd := rfl
@[simp] theorem park_code (s : State) : (park s).code = s.code := rfl
@[simp] theorem park_busy (s : State) : (park s).busy = s.busy := rfl
@[simp] theorem park_result (s : State) : (park s).result = s.result := rfl
@[simp] theorem park_dest (s : State) : (park s).dest = s.dest := rfl
@[simp] theorem park_src (s : State) : (park s).src = s.src := rfl
@[simp] theorem park_len (s : State) : (park s).len = s.len := rfl
@[simp] theorem park_argA (s : State) : (park s).argA = s.argA := rfl
@[simp] theorem park_argB (s : State) : (park s).argB = s.argB := rfl
@[simp] theorem park_word0 (s : State) : (park s).word0 = s.word0 := rfl
@[simp] theorem park_word1 (s : State) : (park s).word1 = s.word1 := rfl
@[simp] theorem park_srcNull (s : State) : (park s).srcNull = s.srcNull := rfl
@[simp] theorem park_latch (s : State) : (park s).latch = s.latch := rfl
@[simp] theorem park_acc (s : State) : (park s).acc = s.acc := rfl
@[simp] theorem park_cur (s : State) : (park s).cur = s.cur := rfl
@[simp] theorem park_padCnt (s : State) : (park s).padCnt = s.padCnt := rfl
@[simp] theorem park_mem (s : State) : (park s).mem = [] := rfl
@[simp] theorem park_inFlight (s : State) : (park s).inFlight = s.inFlight := rfl
@[simp] theorem park_draws (s : State) : (park s).draws = 0 := rfl
@[simp] theorem park_sched (s : State) : (park s).sched = s.sched := rfl
@[simp] theorem park_hostProg (s : State) : (park s).hostProg = s.hostProg := rfl
@[simp] theorem park_hostPc (s : State) : (park s).hostPc = s.hostPc := rfl
@[simp] theorem park_hostTemps (s : State) : (park s).hostTemps = s.hostTemps := rfl

/-! ### Clashes -/

/-- Ranges that do not meet have no address in common. -/
theorem Span.has_of_not_meets {r q : Span} {a : Nat} (h : r.meets q = false) (hr : r.has a = true) :
    q.has a = false := by
  by_contra hq
  rw [Bool.not_eq_false, Span.has_iff] at hq
  rw [Span.has_iff] at hr
  simp only [Span.meets, Bool.and_eq_false_iff, decide_eq_false_iff_not] at h
  omega

/-- A platform step that answers: there is no such instance and nothing changes, or the instance steps over the shared memory
and counter, its new command clashing with no other. -/
theorem platformStep_next_cases {p q : Platform} {k : Nat} (h : platformStep k p = .next q) :
    (p.instances[k]? = none ∧ q = p) ∨
    ∃ s t, p.instances[k]? = some s ∧ touchesOthers (p.instances.eraseIdx k) (p.lend s) = false ∧
      step (p.lend s) = .next t ∧ clashes (p.instances.eraseIdx k) t = false ∧
      q = ⟨p.instances.set k (park t), t.mem, t.draws⟩ := by
  unfold platformStep at h
  split at h
  · split at h
    · rename_i hk
      injection h with h
      exact .inl ⟨hk, h.symm⟩
    · rename_i s hk
      split at h
      · cases h
      · rename_i ht
        split at h
        · rename_i t hs
          split at h
          · cases h
          · rename_i hc
            injection h with h
            exact .inr ⟨s, t, hk, by simpa using ht, hs, by simpa using hc, h.symm⟩
        · cases h
        · cases h
  · cases h

end Sys2Proof.Machine
end

