-- ==== Sys2Proof/Tests/Slice0.lean ====
section
/-! SUPPORT. The model's own tests. The expected values come from spec/95_test_vectors.md (the row is named by its id) or are
worked by hand from the rule named. Then one witness per statement that has hypotheses: a state and operands that meet them
together, clause by clause, at the boundary of each range. -/

open Sys2Proof Sys2Proof.Machine

/-! ### Helpers -/

/-- A busy block over `EV3_DEFAULT` with `MEM_SIZE` 0x1000 whose latch and memory are given. -/
def busyAt (l : Latch) (m : Memory) : State := { State.reset with latch := l, mem := m, busy := true }

/-- Memory with the bytes `bs` from `a` on. -/
def memAt (a : Nat) (bs : List Byte) : Memory := Memory.writeRange [] a bs

/-- A latch with a destination only. -/
def toDest (d : Nat) : Latch := { Latch.zero with dest := BitVec.ofNat 32 d }

/-- A latch with destination, source and length. -/
def copying (d s n : Nat) : Latch :=
  { Latch.zero with dest := BitVec.ofNat 32 d, src := BitVec.ofNat 32 s, len := BitVec.ofNat 8 n }

/-- A latch with a length only. -/
def ofLen (n : Nat) : Latch := { Latch.zero with len := BitVec.ofNat 8 n }

/-- The next state of an outcome; the state given where there is none. -/
def nextOr (d : State) : Result → State
  | .next t => t
  | .fault _ => d
  | .refused _ => d

/-- The state after the completion step of `i`. -/
def after (i : Instr) (s : State) : State := nextOr s (exec i s)

/-- The code, `RESULT` and the `k` bytes at `L.DEST` after the completion step of `i`. -/
def outcome (i : Instr) (k : Nat) (s : State) : Code × Nat × List Byte :=
  ((after i s).code, (after i s).result.toNat, bytesAt (after i s).mem s.latch.dest.toNat k)

/-! ### Configurations, forms and programs that are not well formed (R9, R10, R91, R92) -/

theorem test_default_profile_is_well_formed : Config.ev3Default.wellFormed = true := by decide

theorem test_memory_size_out_of_range :
    { Config.ev3Default with memSize := 0 }.wellFormed = false ∧
    { Config.ev3Default with memSize := 2 ^ 32 + 1 }.wellFormed = false ∧
    { Config.ev3Default with memSize := 2 ^ 32 }.wellFormed = true := by decide

theorem test_signals_without_ack :
    { Config.ev3Default with sysSignals := [0x0, 0x2, 0x6] }.wellFormed = false := by decide

theorem test_base_with_a_low_bit :
    { Config.ev3Default with infoBase := 0xA0 }.wellFormed = false := by decide

theorem test_equal_bases : { Config.ev3Default with dataBase := 0x40 }.wellFormed = false := by decide

theorem test_fields_above_seven :
    { Config.ev3Default with subWrite := 0x8 }.wellFormed = false ∧
    { Config.ev3Default with sysSignals := [0x4, 0x8] }.wellFormed = false := by decide

theorem test_equal_sub_types : { Config.ev3Default with subSelect := 0x0 }.wellFormed = false := by decide

theorem test_forms_out_of_range :
    (Asm.sys (2 ^ 32) 4).reject = some .addressRange ∧
    (Asm.cmdType 0 256).reject = some .byteRange ∧
    (Asm.cmdModes 0 5 256).reject = some .byteRange ∧
    (Asm.cmdSpeed 0 (2 ^ 32)).reject = some .wordRange ∧
    (Asm.cmdSelect 0 256).reject = some .byteRange ∧
    (Asm.cmdWrite 0 (.addr (2 ^ 32)) 3).reject = some .addressRange ∧
    (Asm.infoName 0 5 .null 256).reject = some .lenRange ∧
    (Asm.infoSpan 0 0 1 0 (2 ^ 32)).reject = some .wordRange ∧
    (Asm.infoSymbol 0 256 .null 3).reject = some .byteRange ∧
    (Asm.infoFormat 0 5 1 0 2 256).reject = some .byteRange ∧
    (Asm.data 0 0 .null 256).reject = some .lenRange ∧
    (Asm.csum .null 256).reject = some .lenRange ∧
    (Asm.log2c 256).reject = some .lenRange ∧
    (Asm.lcode 256).reject = some .lenRange ∧
    (Asm.padsz 256).reject = some .lenRange ∧
    (Asm.wpad (2 ^ 32) 0).reject = some .addressRange := by decide

/-- "A value that fits but exceeds the protocol's range is not refused" (R91). -/
theorem test_forms_beyond_the_protocol_are_accepted :
    (Asm.infoFormat 0 9 0xFF 0xFF 0xFF 0xFF).wellFormed = true ∧ (Asm.data 0 0 .null 255).wellFormed = true ∧
    (Asm.sys (2 ^ 32 - 1) 255).wellFormed = true := by decide

theorem test_programs_with_bad_labels :
    programWellFormed [.label 0, .label 0] = false ∧
    programWellFormed [.ifGoto (.eq (.lit 0) (.lit 0)) 1, .label 0] = false ∧
    programWellFormed [.label 0, .ifGoto (.eq (.lit 0) (.lit 0)) 0] = true := by decide

/-! ### Decoding: the words written out from R81's map -/

theorem test_decode_system :
    decode 0b00000000000000000000000000000000 = .ok .sys := by decide

theorem test_decode_command_family :
    decode 0b00000000000000000000000000000001 = .ok .cmdType ∧
    decode 0b00000000000000000000000000000010 = .ok .cmdModes ∧
    decode 0b00000000000000000000000000000011 = .ok .cmdSpeed ∧
    decode 0b00000000000000000000000000000100 = .ok .cmdSelect ∧
    decode 0b00000000000000000000000000000101 = .ok .cmdWrite := by decide

theorem test_decode_information_family :
    decode 0b00000000000000000000000000000110 = .ok .infoName ∧
    decode 0b00000000000000000000000000000111 = .ok .infoSpan ∧
    decode 0b00000000000000000000000000001000 = .ok .infoSymbol ∧
    decode 0b00000000000000000000000000001001 = .ok .infoFormat := by decide

theorem test_decode_data : decode 0b00000000000000000000000000001010 = .ok .data := by decide

theorem test_decode_primitives :
    decode 0b00000000000000000000000000001011 = .ok .csum ∧
    decode 0b00000000000000000000000000001100 = .ok .log2c ∧
    decode 0b00000000000000000000000000001101 = .ok .lcode ∧
    decode 0b00000000000000000000000000001110 = .ok .padsz ∧
    decode 0b00000000000000000000000000001111 = .ok .wpad := by decide

/-- V-E1 to V-E4, and the top bit of `RSV`. -/
theorem test_decode_reserved :
    decode 0x10 = .error .opReserved ∧ decode 0x1F = .error .opReserved ∧ decode 0x20 = .error .rsvNonzero ∧
    decode 0x25 = .error .rsvNonzero ∧ decode 0x80000000 = .error .rsvNonzero := by decide

theorem test_decode_table_word :
    decodeTableWord 32 0x0A = some .data ∧ decodeTableWord 32 0x10 = none ∧ decodeTableWord 32 0x40 = none ∧
    decodeTableWord 8 0x105 = some .cmdWrite ∧ decodeTableWord 40 0x100000000 = none := by decide

/-! ### Datapath units (S6, S7, S13; 95_test_vectors.md 2.1) -/

theorem test_clog2 :
    [1, 2, 3, 4, 5, 8, 9, 32, 33, 128, 129, 255].map clog2 = [0, 1, 2, 2, 3, 3, 4, 5, 6, 7, 8, 8] := by decide

theorem test_length_code :
    [1, 2, 3, 5, 9, 17, 33, 65, 255].map lengthCode = [0x00, 0x08, 0x10, 0x18, 0x20, 0x28, 0x30, 0x38, 0x40] := by decide

theorem test_pad_count :
    [1, 2, 3, 5, 7, 9, 17, 24, 31, 33, 129, 255].map padCount = [0, 0, 1, 3, 1, 7, 15, 8, 1, 31, 127, 1] := by decide

/-! ### One completion step per command -/

/-- V-S5: only `A0[2:0]` is used. -/
theorem test_sys : outcome .sys 1 (busyAt { toDest 0x100 with a0 := 0xFC } []) = (.ok, 1, [0x04]) := by decide

/-- S2, V-T1. -/
theorem test_cmd_type :
    outcome .cmdType 3 (busyAt { toDest 0x100 with a0 := 0x1D } []) = (.ok, 3, [0x40, 0x1D, 0xA2]) := by decide

/-- V-T4: and MEM keeps the byte that stood there. -/
theorem test_cmd_type_past_the_end :
    outcome .cmdType 2 (busyAt { toDest 0xFFE with a0 := 0x1D } (memAt 0xFFE [0x55])) =
      (.emem, 0xFFFFFFFF, [0x55, 0x00]) := by decide

/-- V-E12: the bounds check does not wrap. -/
theorem test_no_wrap_at_the_top :
    (after .cmdType { busyAt (toDest 0xFFFFFFFF) [] with cfg := { Config.ev3Default with memSize := 2 ^ 32 } }).code =
      .emem := by decide

/-- V-M2. -/
theorem test_cmd_modes :
    outcome .cmdModes 4 (busyAt { toDest 0x100 with a0 := 0x0D, a1 := 0xFF } []) =
      (.ok, 4, [0x49, 0x05, 0x07, 0xB4]) := by decide

/-- S3, V-SP1. -/
theorem test_cmd_speed :
    outcome .cmdSpeed 6 (busyAt { toDest 0x100 with w0 := 57600 } []) =
      (.ok, 6, [0x52, 0x00, 0xE1, 0x00, 0x00, 0x4C]) := by decide

/-- V-SE2. -/
theorem test_cmd_select :
    outcome .cmdSelect 3 (busyAt { toDest 0x100 with a0 := 9 } []) = (.ok, 3, [0x43, 0x01, 0xBD]) := by decide

/-- V-W3; the byte after the frame stays. -/
theorem test_cmd_write :
    outcome .cmdWrite 7 (busyAt (copying 0x100 0x200 3) (memAt 0x106 [0x77] ++ memAt 0x200 [0x01, 0x02, 0x03])) =
      (.ok, 6, [0x54, 0x01, 0x02, 0x03, 0x00, 0xAB, 0x77]) := by decide

/-- V-E7 to V-E10: the overlap check at its edges; V-W9 and V-E6: the order of the checks. -/
theorem test_cmd_write_checks :
    (after .cmdWrite (busyAt (copying 0x102 0x100 3) [])).code = .emem ∧
    (after .cmdWrite (busyAt (copying 0x203 0x200 3) [])).code = .ok ∧
    (after .cmdWrite (busyAt (copying 0x1FB 0x200 3) [])).code = .emem ∧
    (after .cmdWrite (busyAt (copying 0x1FA 0x200 3) [])).code = .ok ∧
    (after .cmdWrite (busyAt { copying 0x100 0x200 0 with null := true } [])).code = .einval ∧
    (after .cmdWrite (busyAt { copying 0x2000 0x200 3 with null := true } [])).code = .eundef := by decide

/-- S4, V-N1. -/
theorem test_info_name :
    outcome .infoName 11 (busyAt { copying 0x100 0x200 7 with a0 := 5 }
      (memAt 0x200 [0x43, 0x4F, 0x4C, 0x2D, 0x43, 0x41, 0x4C])) =
      (.ok, 11, [0x9D, 0x00, 0x43, 0x4F, 0x4C, 0x2D, 0x43, 0x41, 0x4C, 0x00, 0x41]) := by decide

/-- V-N7 to V-N9. -/
theorem test_info_name_checks :
    (after .infoName (busyAt (copying 0x100 0x200 33) [])).code = .einval ∧
    (after .infoName (busyAt { copying 0x100 0x200 7 with null := true } [])).code = .einval ∧
    (after .infoName (busyAt (copying 0xFDE 0x200 32) [])).code = .emem := by decide

/-- V-SN4: bit patterns, moved without arithmetic. -/
theorem test_info_span :
    outcome .infoSpan 11 (busyAt { toDest 0x100 with a0 := 1, a1 := 1, w0 := 0x7FC00001, w1 := 0xFFFFFFFF } []) =
      (.ok, 11, [0x99, 0x01, 0x01, 0x00, 0xC0, 0x7F, 0xFF, 0xFF, 0xFF, 0xFF, 0xD9]) := by decide

/-- S5, V-SY1: a flat body of eight bytes. -/
theorem test_info_symbol :
    outcome .infoSymbol 11 (busyAt (copying 0x100 0x200 3) (memAt 0x200 [0x63, 0x6F, 0x6C])) =
      (.ok, 11, [0x98, 0x04, 0x63, 0x6F, 0x6C, 0x00, 0x00, 0x00, 0x00, 0x00, 0x03]) := by decide

/-- V-SY5. -/
theorem test_info_symbol_checks :
    (after .infoSymbol (busyAt (copying 0x100 0x200 0) [])).code = .einval ∧
    (after .infoSymbol (busyAt (copying 0x100 0x200 9) [])).code = .einval ∧
    (after .infoSymbol (busyAt { copying 0x100 0x200 3 with null := true } [])).code = .einval := by decide

/-- V-F3. -/
theorem test_info_format :
    outcome .infoFormat 7 (busyAt { toDest 0x100 with a0 := 2, a1 := 0xFF, a2 := 0xFF, a3 := 0xFF, a4 := 0xFF } []) =
      (.ok, 7, [0x92, 0x80, 0x3F, 0x03, 0x0F, 0x0F, 0xD1]) := by decide

/-- V-D3. -/
theorem test_data :
    outcome .data 6 (busyAt { copying 0x100 0x200 3 with a0 := 2 } (memAt 0x200 [0x01, 0x02, 0x03])) =
      (.ok, 6, [0xD2, 0x01, 0x02, 0x03, 0x00, 0x2D]) := by decide

/-- V-D6, V-D9, V-E5, V-E13. -/
theorem test_data_checks :
    (after .data (busyAt (copying 0x100 0x200 33) [])).code = .einval ∧
    (after .data (busyAt { copying 0x100 0x200 3 with null := true } [])).code = .eundef ∧
    (after .data (busyAt { copying 0x2000 0x200 40 with null := true } [])).code = .einval ∧
    (after .data (busyAt (copying 0x100 0x1000 1) [])).code = .emem := by decide

/-- V-C4. -/
theorem test_csum : outcome .csum 0 (busyAt (copying 0 0x10 2) (memAt 0x10 [0x40, 0x1D])) = (.ok, 0xA2, []) := by decide

/-- V-C5 to V-C8. -/
theorem test_csum_checks :
    outcome .csum 0 (busyAt { copying 0 0 0 with null := true } []) = (.ok, 0xFF, []) ∧
    (after .csum (busyAt { copying 0 0 1 with null := true } [])).code = .eundef ∧
    (after .csum (busyAt (copying 0 0xFFE 3) [])).code = .emem ∧
    (after .csum (busyAt (copying 0 0xFFD 3) [])).code = .ok := by decide

theorem test_log2c :
    outcome .log2c 0 (busyAt (ofLen 129) []) = (.ok, 8, []) ∧
    outcome .log2c 0 (busyAt (ofLen 0) []) = (.eundef, 0xFFFFFFFF, []) := by decide

theorem test_lcode :
    outcome .lcode 0 (busyAt (ofLen 255) []) = (.ok, 0x40, []) ∧
    outcome .lcode 0 (busyAt (ofLen 0) []) = (.eundef, 0xFFFFFFFF, []) := by decide

theorem test_padsz :
    outcome .padsz 0 (busyAt (ofLen 17) []) = (.ok, 15, []) ∧
    outcome .padsz 0 (busyAt (ofLen 0) []) = (.eundef, 0xFFFFFFFF, []) := by decide

/-- V-P1; the byte after the padding stays. -/
theorem test_wpad :
    outcome .wpad 4 (busyAt (copying 0x40 0 5) (memAt 0x40 [0xAA, 0xAA, 0xAA, 0xAA])) =
      (.ok, 3, [0x00, 0x00, 0x00, 0xAA]) := by decide

/-- V-P2 to V-P5. -/
theorem test_wpad_checks :
    outcome .wpad 0 (busyAt (copying 0xFFFFFFF0 0 8) []) = (.ok, 0, []) ∧
    (after .wpad (busyAt (copying 0xFFF 0 3) [])).code = .ok ∧
    (after .wpad (busyAt (copying 0xFFF 0 5) [])).code = .emem ∧
    (after .wpad (busyAt (copying 0xFFF 0 0) [])).code = .eundef := by decide

/-! ### Steps -/

/-- Every table word, fetched right after reset, with every operand register 0: the code of R216's first failing check. -/
theorem test_first_step_of_every_word :
    (List.range 17).map (fun w => (nextOr State.reset (step (State.reset.withFetchWord 32 w))).code) =
      [.ok, .ok, .ok, .ok, .ok, .einval, .einval, .ok, .einval, .ok, .einval, .ok, .eundef, .eundef, .eundef, .eundef,
        .eop] := by decide

/-- V-R4 and V-R5: the defined bits of `FLAGS` and `ARGB`. -/
theorem test_defined_bits :
    (readReg .flags (writeOffset 0x28 0xFFFFFFFF State.reset)).toNat = 1 ∧
    (readReg .argB (writeOffset 0x1C 0x1234 State.reset)).toNat = 0x34 ∧
    (readReg .len (writeOffset 0x14 0x105 State.reset)).toNat = 5 := by decide

/-- V-R9: an operand write between the accepted command and its completion does not reach the latch. -/
theorem test_late_operand_write :
    (writeOffset 0x18 0x77 (writeOffset 0x00 1 (writeOffset 0x18 0x1D State.reset))).latch.a0 = 0x1D ∧
    (writeOffset 0x18 0x77 (writeOffset 0x00 1 State.reset)).argA = 0x77 := by decide

/-- P2's expansion of INFO.FORMAT. -/
theorem test_assemble_info_format :
    assemble 0 0 (.infoFormat 0x316 5 1 0 2 0) =
      .ok ([.write 0x0C 4 (.lit 0x316), .write 0x18 4 (.lit 0x02000105), .write 0x1C 4 (.lit 0),
        .write 0x00 4 (.lit 0x09)] ++ poll 0 0) := by decide

/-- P5's expansion of CMD.WRITE. -/
theorem test_assemble_cmd_write :
    expandWrites (.cmdWrite 0x102 (.addr 0x100) 3) =
      [.write 0x0C 4 (.lit 0x102), .write 0x10 4 (.lit 0x100), .write 0x14 4 (.lit 3), .write 0x28 4 (.lit 0),
        .write 0x00 4 (.lit 0x05)] := by decide

/-! ### Witnesses: what meets each statement's hypotheses -/

/-- A command whose only destination bound is tested: the last start that fits, and the next one. -/
def BoundaryOf (size : Nat) : Prop :=
  (Memory.wf (busyAt (toDest (0x1000 - size)) []).mem = true ∧
    (busyAt (toDest (0x1000 - size)) []).latch.dest.toNat + size ≤ (busyAt (toDest (0x1000 - size)) []).cfg.memSize) ∧
  (Memory.wf (busyAt (toDest (0x1001 - size)) []).mem = true ∧
    (busyAt (toDest (0x1001 - size)) []).cfg.memSize < (busyAt (toDest (0x1001 - size)) []).latch.dest.toNat + size)

theorem witness_SysEmitsOneByte : BoundaryOf 1 := by unfold BoundaryOf; decide
theorem witness_CmdTypeEmitsItsFrame : BoundaryOf 3 := by unfold BoundaryOf; decide
theorem witness_CmdModesEmitsItsFrame : BoundaryOf 4 := by unfold BoundaryOf; decide
theorem witness_CmdSpeedEmitsItsFrame : BoundaryOf 6 := by unfold BoundaryOf; decide
theorem witness_CmdSelectEmitsItsFrame : BoundaryOf 3 := by unfold BoundaryOf; decide
theorem witness_InfoSpanEmitsItsFrame : BoundaryOf 11 := by unfold BoundaryOf; decide
theorem witness_InfoFormatEmitsItsFrame : BoundaryOf 7 := by unfold BoundaryOf; decide

/-- A command that copies `n` bytes into `nw`: the last destination that fits, and the next one. -/
def CopyBoundaryOf (nw n k : Nat) : Prop :=
  Memory.wf (busyAt (copying (0x1000 - nw) 0x100 n) []).mem = true ∧
  (busyAt (copying (0x1000 - nw) 0x100 n) []).latch.len.toNat = n ∧
  (busyAt (copying (0x1000 - nw) 0x100 n) []).latch.null = false ∧ IsClog2 n k ∧
  MemFits (busyAt (copying (0x1000 - nw) 0x100 n) []) nw n ∧
  ¬ MemFits (busyAt (copying (0x1001 - nw) 0x100 n) []) nw n

/-- A copying command with the length `n` and the pointer present or absent. -/
def CopyState (n : Nat) (absent : Bool) : Prop :=
  Memory.wf (busyAt { copying 0x200 0x100 n with null := absent } []).mem = true ∧
  (busyAt { copying 0x200 0x100 n with null := absent } []).latch.len.toNat = n ∧
  (busyAt { copying 0x200 0x100 n with null := absent } []).latch.null = absent

theorem witness_CmdWriteEmitsItsFrame :
    CopyState 0 false ∧ CopyState 25 false ∧ CopyState 1 true ∧ CopyState 24 true ∧
      CopyBoundaryOf (2 + 2 ^ 0) 1 0 ∧ CopyBoundaryOf (2 + 2 ^ 5) 24 5 := by
  refine ⟨?_, ?_, ?_, ?_, ?_, ?_⟩ <;>
    first | (unfold CopyState; decide) | (unfold CopyBoundaryOf IsClog2 MemFits; decide)

theorem witness_InfoNameEmitsItsFrame :
    CopyState 0 false ∧ CopyState 33 false ∧ CopyState 7 true ∧
      CopyBoundaryOf (3 + 2 ^ 0) 1 0 ∧ CopyBoundaryOf (3 + 2 ^ 5) 32 5 := by
  refine ⟨?_, ?_, ?_, ?_, ?_⟩ <;>
    first | (unfold CopyState; decide) | (unfold CopyBoundaryOf IsClog2 MemFits; decide)

theorem witness_InfoSymbolEmitsItsFrame :
    CopyState 0 false ∧ CopyState 9 false ∧ CopyState 3 true ∧ CopyBoundaryOf 11 1 0 ∧ CopyBoundaryOf 11 8 3 := by
  refine ⟨?_, ?_, ?_, ?_, ?_⟩ <;>
    first | (unfold CopyState; decide) | (unfold CopyBoundaryOf IsClog2 MemFits; decide)

theorem witness_DataEmitsItsFrame :
    CopyState 0 false ∧ CopyState 33 false ∧ CopyState 1 true ∧ CopyState 32 true ∧
      CopyBoundaryOf (2 + 2 ^ 0) 1 0 ∧ CopyBoundaryOf (2 + 2 ^ 5) 32 5 := by
  refine ⟨?_, ?_, ?_, ?_, ?_, ?_⟩ <;>
    first | (unfold CopyState; decide) | (unfold CopyBoundaryOf IsClog2 MemFits; decide)

theorem witness_CsumYieldsTheChecksum :
    CopyState 0 true ∧ CopyState 1 true ∧
    ((copying 0 0xFFF 1).len.toNat = 1 ∧ (copying 0 0xFFF 1).null = false ∧
      (copying 0 0xFFF 1).src.toNat + 1 ≤ State.reset.cfg.memSize) ∧
    ((copying 0 0x1000 1).len.toNat = 1 ∧ (copying 0 0x1000 1).null = false ∧
      State.reset.cfg.memSize < (copying 0 0x1000 1).src.toNat + 1) := by
  unfold CopyState; decide

/-- Lengths 0, 1 and 255 with their logarithms. -/
def LengthClauses : Prop :=
  (ofLen 0).len.toNat = 0 ∧ ((ofLen 1).len.toNat = 1 ∧ IsClog2 1 0) ∧ ((ofLen 255).len.toNat = 255 ∧ IsClog2 255 8)

theorem witness_Log2cYieldsTheCeilingLog : LengthClauses := by unfold LengthClauses IsClog2; decide
theorem witness_LcodeYieldsTheLengthCode : LengthClauses := by unfold LengthClauses IsClog2; decide
theorem witness_PadszYieldsThePadding : LengthClauses := by unfold LengthClauses IsClog2; decide

theorem witness_WpadWritesThePadding :
    Memory.wf State.reset.mem = true ∧ (ofLen 0).len.toNat = 0 ∧ IsClog2 5 3 ∧ IsClog2 8 3 ∧
    ((copying 0xFFD 0 5).len.toNat = 5 ∧ (copying 0xFFD 0 5).dest.toNat + (2 ^ 3 - 5) ≤ State.reset.cfg.memSize) ∧
    ((copying 0xFFE 0 5).len.toNat = 5 ∧ State.reset.cfg.memSize < (copying 0xFFE 0 5).dest.toNat + (2 ^ 3 - 5)) ∧
    ((copying 0xFFFFFFF0 0 8).len.toNat = 8 ∧ 2 ^ 3 - 8 = 0) := by
  unfold IsClog2; decide

/-- A completed writer, a completed encoder and a completed command that writes nothing. -/
theorem witness_OkWritesOnlyTheResultRange :
    (Memory.wf (busyAt (copying 0x40 0 5) []).mem = true ∧
      exec .wpad (busyAt (copying 0x40 0 5) []) = .next (after .wpad (busyAt (copying 0x40 0 5) [])) ∧
      (after .wpad (busyAt (copying 0x40 0 5) [])).code = .ok ∧ Instr.wpad ∈ writers ∧ Instr.wpad ∉ encoders) ∧
    (exec .infoName (busyAt (copying 0x100 0x200 32) []) =
        .next (after .infoName (busyAt (copying 0x100 0x200 32) [])) ∧
      (after .infoName (busyAt (copying 0x100 0x200 32) [])).code = .ok ∧ Instr.infoName ∈ encoders) ∧
    (exec .log2c (busyAt (ofLen 1) []) = .next (after .log2c (busyAt (ofLen 1) [])) ∧
      (after .log2c (busyAt (ofLen 1) [])).code = .ok ∧ Instr.log2c ∉ writers) :=
  ⟨⟨by decide, rfl, by decide, by decide, by decide⟩, ⟨rfl, by decide, by decide⟩, ⟨rfl, by decide, by decide⟩⟩

theorem witness_FootprintIsWhatTheCommandTouches :
    (decode (busyAt { copying 0x100 0x200 3 with w := 0x10 } []).latch.w = .error .opReserved ∧
      decode (busyAt { copying 0x100 0x200 3 with w := 0x20 } []).latch.w = .error .rsvNonzero) ∧
    (decode (busyAt { copying 0x100 0x200 33 with w := 0x0A } []).latch.w = .ok .data ∧
      exec .data (busyAt { copying 0x100 0x200 33 with w := 0x0A } []) =
        .next (after .data (busyAt { copying 0x100 0x200 33 with w := 0x0A } [])) ∧
      (after .data (busyAt { copying 0x100 0x200 33 with w := 0x0A } [])).code ≠ .ok) ∧
    (decode (busyAt { copying 0x100 0x200 32 with w := 0x0A } []).latch.w = .ok .data ∧
      exec .data (busyAt { copying 0x100 0x200 32 with w := 0x0A } []) =
        .next (after .data (busyAt { copying 0x100 0x200 32 with w := 0x0A } [])) ∧
      (after .data (busyAt { copying 0x100 0x200 32 with w := 0x0A } [])).code = .ok) :=
  ⟨by decide, ⟨by decide, rfl, by decide⟩, by decide, rfl, by decide⟩

/-- Two blocks that agree on the latch and the source bytes and differ elsewhere. -/
theorem witness_OutcomeDependsOnlyOnLatchAndSource :
    Memory.wf (memAt 0x200 [1, 2, 3]) = true ∧ Memory.wf (memAt 0x100 [9] ++ memAt 0x200 [1, 2, 3]) = true ∧
    sourceOf (busyAt (copying 0x100 0x200 3) (memAt 0x200 [1, 2, 3])) =
      sourceOf { busyAt (copying 0x100 0x200 3) (memAt 0x100 [9] ++ memAt 0x200 [1, 2, 3]) with acc := 0x55, cur := 9 } ∧
    exec .data (busyAt (copying 0x100 0x200 3) (memAt 0x200 [1, 2, 3])) =
      .next (after .data (busyAt (copying 0x100 0x200 3) (memAt 0x200 [1, 2, 3]))) ∧
    (after .data (busyAt (copying 0x100 0x200 3) (memAt 0x200 [1, 2, 3]))).code = .ok ∧ Instr.data ∈ writers :=
  ⟨by decide, by decide, by decide, rfl, by decide, by decide⟩

theorem witness_SameMessageSameBytesAnywhere :
    (copying 0x300 0x200 3 = { copying 0x100 0x200 3 with dest := (copying 0x300 0x200 3).dest }) ∧
    sourceOf (busyAt (copying 0x100 0x200 3) (memAt 0x200 [1, 2, 3])) =
      sourceOf (busyAt (copying 0x300 0x200 3) (memAt 0x200 [1, 2, 3])) ∧
    (after .data (busyAt (copying 0x100 0x200 3) (memAt 0x200 [1, 2, 3]))).code = .ok ∧
    (after .data (busyAt (copying 0x300 0x200 3) (memAt 0x200 [1, 2, 3]))).code = .ok ∧ Instr.data ∈ writers := by decide

/-- A completed checksummed encoder. -/
theorem witness_FrameBytesXorToSeed :
    Instr.data ∈ checksummed ∧ Memory.wf (busyAt (copying 0x100 0x200 3) []).mem = true ∧
    exec .data (busyAt (copying 0x100 0x200 3) []) = .next (after .data (busyAt (copying 0x100 0x200 3) [])) ∧
    (after .data (busyAt (copying 0x100 0x200 3) [])).code = .ok :=
  ⟨by decide, by decide, rfl, by decide⟩

/-- The state in which CSUM is latched over the frame that DATA just wrote. -/
def overFrame : State := { after .data (busyAt (copying 0x100 0x200 3) []) with latch := copying 0 0x100 6 }

theorem witness_CsumOfAWholeFrameIsZero :
    Instr.data ∈ checksummed ∧ (after .data (busyAt (copying 0x100 0x200 3) [])).code = .ok ∧
    overFrame.mem = (after .data (busyAt (copying 0x100 0x200 3) [])).mem ∧
    overFrame.cfg = (after .data (busyAt (copying 0x100 0x200 3) [])).cfg ∧
    overFrame.latch.src = (copying 0x100 0x200 3).dest ∧
    overFrame.latch.len.toNat = (after .data (busyAt (copying 0x100 0x200 3) [])).result.toNat ∧
    overFrame.latch.null = false := by decide

theorem witness_TagTellsTheFrameLength :
    Instr.sys ∈ encoders ∧ Instr.infoName ∈ encoders ∧ State.reset.cfg.wellFormed = true ∧
    (after .sys (busyAt (toDest 0xFFF) [])).code = .ok ∧
    (after .infoName (busyAt (copying 0x100 0x200 32) [])).code = .ok := by decide

theorem witness_TagFieldsAreDisjoint :
    Config.ev3Default.wellFormed = true ∧ Config.ev3Default.dataBase ∈ [Config.ev3Default.sysBase,
      Config.ev3Default.cmdBase, Config.ev3Default.infoBase, Config.ev3Default.dataBase] ∧
    (7 : Byte) ≤ 7 ∧ IsClog2 1 0 ∧ IsClog2 32 5 := by unfold IsClog2; decide

theorem witness_PaddingLaws : ((1 : Nat) ≤ 1 ∧ 1 ≤ 255) ∧ (1 ≤ 255 ∧ 255 ≤ 255) := by decide

/-- A failing command, a frame, SYS, WPAD, CSUM and a logarithm: a completion of each kind. -/
theorem witness_HiddenStateAfterCompletion :
    (after .data (busyAt (copying 0x100 0x200 0) [])).code ≠ .ok ∧
    ((after .data (busyAt (copying 0x100 0x200 32) [])).code = .ok ∧ Instr.data ∈ checksummed) ∧
    (after .sys (busyAt (toDest 0xFFF) [])).code = .ok ∧
    (after .wpad (busyAt (copying 0xFFFFFFF0 0 8) [])).code = .ok ∧
    (after .csum (busyAt (copying 0 0 0) [])).code = .ok ∧ (after .log2c (busyAt (ofLen 1) [])).code = .ok ∧
    (after .lcode (busyAt (ofLen 1) [])).code = .ok ∧ (after .padsz (busyAt (ofLen 1) [])).code = .ok := by decide

/-- A reserved word in each way, and the command words that are none. -/
theorem witness_ReservedWordsAreRejected :
    ((0x10 : Word).extractLsb' 4 1 = 1#1 ∧ (0x1F : Word).extractLsb' 4 1 = 1#1) ∧
    ((0x20 : Word).extractLsb' 5 27 ≠ 0#27 ∧ (0x80000000 : Word).extractLsb' 5 27 ≠ 0#27) ∧
    (decode 0x0F = .ok .wpad) := by decide

/-- Each form at the upper bound of every operand. -/
theorem witness_AssembledOperandsReachTheLatch :
    State.reset.busy = false ∧
    [Asm.sys 0xFFFFFFFF 255, .cmdType 0xFFFFFFFF 255, .cmdModes 0 255 255, .cmdSpeed 0 0xFFFFFFFF, .cmdSelect 0 255,
      .cmdWrite 0 (.addr 0xFFFFFFFF) 255, .infoName 0 255 .null 255, .infoSpan 0 255 255 0xFFFFFFFF 0xFFFFFFFF,
      .infoSymbol 0 255 .null 255, .infoFormat 0 255 255 255 255 255, .data 0 255 (.addr 0) 255, .csum .null 255,
      .log2c 255, .lcode 255, .padsz 255, .wpad 0xFFFFFFFF 255].all Asm.wellFormed = true := by decide

/-- A busy block: with nothing scheduled, and with the framer scheduled. -/
theorem witness_StepRunsTheLatchedCommand :
    ((busyAt (toDest 0) []).cfg.wellFormed = true ∧ (busyAt (toDest 0) []).busy = true ∧
      (busyAt (toDest 0) []).sched = [] ∧ decode (busyAt (toDest 0) []).latch.w = .ok .sys) ∧
    ((State.reset.withFetchWord 32 0x0F).busy = true ∧
      (State.reset.withFetchWord 32 0x0F).sched.head? = some .framer ∧
      decode (State.reset.withFetchWord 32 0x0F).latch.w = .ok .wpad) := by decide

theorem witness_ReservedWordCompletesWithEop :
    ((State.reset.withFetchWord 32 0x10).busy = true ∧ (State.reset.withFetchWord 32 0x10).cfg.wellFormed = true ∧
      (State.reset.withFetchWord 32 0x10).sched.head? = some .framer ∧
      (State.reset.withFetchWord 32 0x10).latch.w.toNat % 32 ≥ 0x10) ∧
    ((State.reset.withFetchWord 32 0x20).busy = true ∧
      (State.reset.withFetchWord 32 0x20).latch.w.toNat / 32 ≠ 0) ∧
    ((acceptCommand 0x1F State.reset).busy = true ∧ (acceptCommand 0x1F State.reset).cfg.wellFormed = true ∧
      (acceptCommand 0x1F State.reset).sched = [] ∧ (acceptCommand 0x1F State.reset).latch.w.toNat % 32 ≥ 0x10) ∧
    ((acceptCommand 0xFFFFFFFF State.reset).sched = [] ∧
      (acceptCommand 0xFFFFFFFF State.reset).latch.w.toNat / 32 ≠ 0) := by decide

/-- The reset state with one scheduled turn. -/
def withTurn (t : Turn) : State := { State.reset with sched := [t] }

theorem witness_IdleFramerDoesNothing :
    (withTurn .framer).cfg.wellFormed = true ∧ (withTurn .framer).busy = false ∧
    (withTurn .framer).sched.head? = some .framer := by decide

/-- A configuration for each of the four conditions. -/
theorem witness_IllFormedConfigurationIsRefused :
    ((0x00 : Byte) ||| 0x40 ||| 0x81 ||| 0xC0) &&& 0x3F ≠ 0 ∧ ¬ [(0x00 : Byte), 0x40, 0x80, 0x40].Nodup ∧
    (7 : Byte) < 8 ∧ (8 : Byte) ∈ { Config.ev3Default with subWrite := 8 }.subs ++ Config.ev3Default.sysSignals ∧
    ¬ { Config.ev3Default with subWrite := 0 }.subs.Nodup := by decide

/-- A host that stores outside `MEM`. -/
def strayHost : State := { State.reset with hostProg := [.storeByte (.lit 0x1000) (.lit 0)] }

theorem witness_OnlyTheHostCanStop :
    strayHost.cfg.wellFormed = true ∧ ∀ t, step strayHost ≠ .next t := by
  have h : step strayHost = .fault .hostOutsideMem := rfl
  exact ⟨by decide, fun t e => by rw [h] at e; cases e⟩

/-- A busy block whose next turn is the host's, at its operation `op`. -/
def busyHost (op : HostOp) : State :=
  { acceptCommand 0 State.reset with sched := [.host], hostProg := [op] }

theorem witness_CommandStaysEnabledUntilTaken :
    ((busyHost (.write 0 4 (.lit 4))).cfg.wellFormed = true ∧ (busyHost (.write 0 4 (.lit 4))).busy = true ∧
      nextTurn (busyHost (.write 0 4 (.lit 4))) = .host ∧
      step (busyHost (.write 0 4 (.lit 4))) =
        .next (nextOr State.reset (step (busyHost (.write 0 4 (.lit 4)))))) ∧
    ((busyAt (toDest 0) []).busy = true ∧ (busyAt (toDest 0) []).sched = []) :=
  ⟨⟨by decide, by decide, by decide, rfl⟩, by decide, by decide⟩

theorem witness_HostTurnKeepsOutcomeRegisters :
    nextTurn (busyHost (.write 0x0C 4 (.lit 4))) = .host ∧
    step (busyHost (.write 0x0C 4 (.lit 4))) =
      .next (nextOr State.reset (step (busyHost (.write 0x0C 4 (.lit 4))))) := ⟨by decide, rfl⟩

theorem witness_StepKeepsTheConfiguration :
    step (withTurn .reset) = .next (nextOr State.reset (step (withTurn .reset))) := rfl

/-- The state after reset has the invariant and steps, in each agent's turn. -/
theorem witness_StepKeepsInvariant :
    State.reset.Inv ∧ step State.reset = .next State.reset ∧
    step (withTurn .reset) = .next (nextOr State.reset (step (withTurn .reset))) :=
  ⟨⟨by decide, by decide, by decide, by decide, by decide, by decide, by decide, by decide⟩, rfl, rfl⟩

theorem witness_AcceptedCmdWriteCapturesTheLatch : State.reset.busy = false := by decide

theorem witness_BusyCmdWriteIsIgnored : (busyHost (.write 0 4 (.lit 4))).busy = true := by decide

/-- Each of the seven offsets. -/
theorem witness_ReadOnlyAndUnmappedWritesAreIgnored :
    (0x04 : Nat) ∈ [0x04, 0x08, 0x2C, 0x30, 0x34, 0x38, 0x3C] ∧ (0x3C : Nat) ∈ [0x04, 0x08, 0x2C, 0x30, 0x34, 0x38, 0x3C] := by
  decide

/-- The `STATUS` of an idle and of a busy block, `FLAGS`, and the last unmapped offset. -/
theorem witness_RegisterReadsReturnTheFields :
    (((0x04 : Nat), (0 : Nat)) = (0x04, (codeBits State.reset.code).toNat + if State.reset.busy then 256 else 0)) ∧
    (((0x04 : Nat), (0x100 : Nat)) = (0x04, (codeBits (busyAt (toDest 0) []).code).toNat +
      if (busyAt (toDest 0) []).busy then 256 else 0)) ∧
    ((0x28 : Nat), (1 : Nat)) = (0x28, if { State.reset with srcNull := true }.srcNull then 1 else 0) ∧
    ((0x3C : Nat), (0 : Nat)) ∈ [((0x38 : Nat), (0 : Nat)), (0x3C, 0)] := by decide

/-- A narrow access, a wide one and a misaligned one, at both ends of the block. -/
theorem witness_UnsupportedRegisterAccessIsRefused :
    ((0 : Nat) < 64 ∧ (2 : Nat) ≠ 4) ∧ ((0 : Nat) < 64 ∧ (8 : Nat) ≠ 4) ∧ ((63 : Nat) < 64 ∧ 63 % 4 ≠ 0) := by decide

/-- A block about to run DATA of three bytes from 0x200 to 0x100, its footprints in flight. -/
def copyingInFlight : State :=
  { acceptCommand 0x0A { State.reset with dest := 0x100, src := 0x200, len := 3 } with hostProg := [] }

/-- The first and the last byte of `WF` and of `RF`. -/
theorem witness_FootprintAccessFaults :
    footprint copyingInFlight.cfg copyingInFlight.latch ∈ copyingInFlight.inFlight ∧
    (footprint copyingInFlight.cfg copyingInFlight.latch).wf.has 0x100 = true ∧
    (footprint copyingInFlight.cfg copyingInFlight.latch).wf.has 0x105 = true ∧
    (footprint copyingInFlight.cfg copyingInFlight.latch).rf.has 0x200 = true ∧
    (footprint copyingInFlight.cfg copyingInFlight.latch).rf.has 0x202 = true ∧
    0x202 < copyingInFlight.cfg.memSize ∧
    framerStep copyingInFlight = .next (nextOr State.reset (framerStep copyingInFlight)) :=
  ⟨by decide, by decide, by decide, by decide, by decide, by decide, rfl⟩

/-- The last byte of `MEM` and the bytes beside `WF` and `RF`. -/
theorem witness_HostByteAccessesOutsideFootprints :
    Memory.wf copyingInFlight.mem = true ∧ 0xFFF < copyingInFlight.cfg.memSize ∧
    (∀ f ∈ copyingInFlight.inFlight, f.wf.has 0xFFF = false ∧ f.wf.has 0xFF = false ∧ f.wf.has 0x106 = false) ∧
    (∀ f ∈ copyingInFlight.inFlight, f.rf.has 0xFFF = false ∧ f.rf.has 0x1FF = false ∧ f.rf.has 0x203 = false) := by
  decide

/-- A read that sees `BUSY = 0` and a read that sees `BUSY = 1`. -/
theorem witness_StatusReadEndsTheFlight :
    (hostAct (.read 0x04 4 0) State.reset = .next (nextOr State.reset (hostAct (.read 0x04 4 0) State.reset)) ∧
      State.reset.busy = false) ∧
    (hostAct (.read 0x04 4 0) copyingInFlight =
        .next (nextOr State.reset (hostAct (.read 0x04 4 0) copyingInFlight)) ∧
      copyingInFlight.busy = true ∧ copyingInFlight.inFlight ≠ []) :=
  ⟨⟨rfl, by decide⟩, rfl, by decide, by decide⟩

/-- A store beside the source and a write to `DEST` while DATA is in flight. -/
theorem witness_CompletionCommutesWithTheHost :
    copyingInFlight.Inv ∧ copyingInFlight.busy = true ∧
    (timingFree copyingInFlight.cfg (.storeByte (.lit 0x203) (.lit 0xAA)) = true ∧
      hostAct (.storeByte (.lit 0x203) (.lit 0xAA)) copyingInFlight =
        .next (nextOr State.reset (hostAct (.storeByte (.lit 0x203) (.lit 0xAA)) copyingInFlight))) ∧
    (timingFree copyingInFlight.cfg (.write 0x0C 4 (.lit 0x300)) = true ∧
      hostAct (.write 0x0C 4 (.lit 0x300)) copyingInFlight =
        .next (nextOr State.reset (hostAct (.write 0x0C 4 (.lit 0x300)) copyingInFlight))) :=
  ⟨⟨by decide, by decide, by decide, by decide, by decide, by decide, by decide, by decide⟩, by decide,
    ⟨by decide, rfl⟩, by decide, rfl⟩

/-- An instance whose register block stands at `base`, its host about to write the command word 0 (SYS) for the address
`dest`. -/
def instanceAt (base dest : Nat) : State :=
  { State.resetWith { Config.ev3Default with framerBase := base } with
    dest := BitVec.ofNat 32 dest, hostProg := [.write 0 4 (.lit 0)] }

/-- The platform after one step of instance `k`; the platform given where there is none. -/
def platformAfter (k : Nat) (p : Platform) : Platform :=
  match platformStep k p with
  | .next q => q
  | .fault _ => p
  | .refused _ => p

/-- Two idle instances that will write at the addresses given. -/
def twoInstances (d d' : Nat) : Platform := ⟨[instanceAt 0 d, instanceAt 0x40 d'], [], 0⟩

/-- R224, I2: the second command starts beside the first one's byte, and faults on it. -/
theorem test_instances_overlap :
    (match platformStep 1 (platformAfter 0 (twoInstances 0x10 0x11)) with | .next _ => true | _ => false) = true ∧
    (match platformStep 1 (platformAfter 0 (twoInstances 0x10 0x10)) with
      | .fault f => decide (f = .instanceOverlap)
      | _ => false) = true := by decide

/-- I11: resets of two instances draw from one counter, and neither of them keeps it. -/
theorem test_instances_draw_apart :
    let p : Platform :=
      ⟨(twoInstances 0x10 0x11).instances.map fun s => { s with sched := [.reset] }, [], 0⟩
    (platformAfter 1 (platformAfter 0 p)).draws = 2 ∧
      ((platformAfter 1 (platformAfter 0 p)).instances.map State.draws) = [0, 0] := by decide

/-- Both commands run at once, side by side. -/
theorem witness_InstancesShareOnlyMemory :
    platformStep 1 (platformAfter 0 (twoInstances 0x10 0x11)) =
      .next (platformAfter 1 (platformAfter 0 (twoInstances 0x10 0x11))) ∧
    ((platformAfter 1 (platformAfter 0 (twoInstances 0x10 0x11))).instances.map State.busy) = [true, true] :=
  ⟨rfl, by decide⟩

theorem witness_CompletionsOfInstancesCommute :
    Memory.wf (busyAt (toDest 0x10) []).mem = true ∧ (busyAt (toDest 0x11) []).mem = (busyAt (toDest 0x10) []).mem ∧
    FootprintsApart (footprint (busyAt (toDest 0x10) []).cfg (busyAt (toDest 0x10) []).latch)
      (footprint (busyAt (toDest 0x11) []).cfg (busyAt (toDest 0x11) []).latch) := by
  have h : footprint (busyAt (toDest 0x10) []).cfg (busyAt (toDest 0x10) []).latch = ⟨⟨0x10, 1⟩, ⟨0, 0⟩⟩ := by decide
  have h' : footprint (busyAt (toDest 0x11) []).cfg (busyAt (toDest 0x11) []).latch = ⟨⟨0x11, 1⟩, ⟨0, 0⟩⟩ := by decide
  refine ⟨by decide, by decide, fun a => ?_⟩
  rw [h, h']
  simp only [Span.has, Bool.and_eq_true, decide_eq_true_eq, Bool.and_eq_false_iff, decide_eq_false_iff_not]
  omega

theorem witness_ResetInputClearsTheBlock :
    (withTurn .reset).cfg.wellFormed = true ∧ (withTurn .reset).sched.head? = some .reset := by decide

/-- Reset of an idle block, and of one with DATA in flight: the bytes just outside `WF`. -/
theorem witness_ResetSparesMemory :
    ((withTurn .reset).busy = false ∧ Memory.wf (withTurn .reset).mem = true ∧
      (withTurn .reset).sched.head? = some .reset ∧
      step (withTurn .reset) = .next (nextOr State.reset (step (withTurn .reset)))) ∧
    ({ copyingInFlight with sched := [.reset] }.busy = true ∧
      Memory.wf { copyingInFlight with sched := [.reset] }.mem = true ∧
      step { copyingInFlight with sched := [.reset] } =
        .next (nextOr State.reset (step { copyingInFlight with sched := [.reset] })) ∧
      (footprint copyingInFlight.cfg copyingInFlight.latch).wf.has 0xFF = false ∧
      (footprint copyingInFlight.cfg copyingInFlight.latch).wf.has 0x106 = false) :=
  ⟨⟨by decide, by decide, by decide, rfl⟩, by decide, by decide, rfl, by decide, by decide⟩

theorem witness_FirstCommandAfterResetIsSys :
    Config.ev3Default.wellFormed = true ∧ { Config.ev3Default with memSize := 1 }.wellFormed = true := by decide
end

section
/-! Proofs, 00_scope.md: what the configuration check of R9 and R10 says, and that `step` refuses what fails it. -/

namespace Sys2Proof

@[simp] theorem Config.basesHigh_iff (c : Config) :
    c.basesHigh = true ↔ (c.sysBase ||| c.cmdBase ||| c.infoBase ||| c.dataBase) &&& 0x3F = 0 :=
  beq_iff_eq

@[simp] theorem Config.basesDistinct_iff (c : Config) :
    c.basesDistinct = true ↔ [c.sysBase, c.cmdBase, c.infoBase, c.dataBase].Nodup :=
  decide_eq_true_iff

@[simp] theorem Config.fieldsSmall_iff (c : Config) :
    c.fieldsSmall = true ↔ ∀ v ∈ c.subs ++ c.sysSignals, v ≤ 7 := by
  simp only [Config.fieldsSmall, List.all_eq_true, decide_eq_true_eq]

@[simp] theorem Config.subsDistinct_iff (c : Config) : c.subsDistinct = true ↔ c.subs.Nodup :=
  decide_eq_true_iff

/-- The ranges of R9 and the four conditions of R10, as propositions. -/
theorem Config.wellFormed_iff (c : Config) :
    c.wellFormed = true ↔
      c.inRange = true ∧ (c.sysBase ||| c.cmdBase ||| c.infoBase ||| c.dataBase) &&& 0x3F = 0 ∧
        [c.sysBase, c.cmdBase, c.infoBase, c.dataBase].Nodup ∧ (∀ v ∈ c.subs ++ c.sysSignals, v ≤ 7) ∧
        c.subs.Nodup := by
  simp only [Config.wellFormed, Bool.and_eq_true, and_assoc, basesHigh_iff, basesDistinct_iff, fieldsSmall_iff,
    subsDistinct_iff]

namespace Machine

/-- R10: "A model refuses any configuration that is not well formed." -/
theorem step_of_not_wellFormed {s : State} (h : ¬ s.cfg.wellFormed = true) :
    step s = .refused .configNotWellFormed :=
  if_neg h

/-- Settles O36: each of the four broken conditions contradicts its conjunct of `Config.wellFormed_iff`. -/
theorem illFormedConfigurationIsRefused : Obligations.IllFormedConfigurationIsRefused := by
  intro s broken
  refine step_of_not_wellFormed fun wf => ?_
  obtain ⟨-, basesHigh, basesDistinct, fieldsSmall, subsDistinct⟩ := s.cfg.wellFormed_iff.mp wf
  rcases broken with lowBits | equalBases | ⟨v, mem, large⟩ | equalSubs
  · exact lowBits basesHigh
  · exact equalBases basesDistinct
  · exact absurd (fieldsSmall v mem) (BitVec.not_le.mpr large)
  · exact equalSubs subsDistinct

end Machine
end Sys2Proof
end

section
/-! Proofs, 10_state.md, the registers: what they hold after reset (R45), what a host write keeps (R22 to R36) and what a
host read returns (R21 to R34, R67). -/

namespace Sys2Proof.Machine

/-! ### Register accesses -/

theorem readReg_resetWith (r : Reg) (c : Config) : readReg r (State.resetWith c) = 0 := by
  have idle : statusWord .ok false = 0 := by decide
  cases r with
  | status => exact idle
  | _ => rfl

/-- A supported register write is the block's write at that offset. -/
theorem hostAct_write {o : Nat} (ho : o < 64) (h4 : o % 4 = 0) (v : HostExpr) (s : State) :
    hostAct (.write o 4 v) s = .next (hostNext (writeOffset o (busWord (evalExpr s.hostTemps v)) s)) := by
  simp only [hostAct, hostWrite, registerSlot_ok ho h4]

/-- A supported register write of a literal word carries that word. -/
theorem hostAct_write_word {o : Nat} (ho : o < 64) (h4 : o % 4 = 0) (v : Word) (s : State) :
    hostAct (.write o 4 (.lit (v.toNat : Int))) s = .next (hostNext (writeOffset o v s)) := by
  rw [hostAct_write ho h4, evalExpr, busWord_toNat]

/-- A supported register read puts what the offset returns in the temporary. -/
theorem hostAct_read {o : Nat} (ho : o < 64) (h4 : o % 4 = 0) (x : Nat) (s : State) :
    hostAct (.read o 4 x) s = .next (hostNext (observe o (setTemp x ((readOffset o s).toNat : Int) s))) := by
  simp only [hostAct, hostRead, registerSlot_ok ho h4]

/-- An idle block accepts a write to `CMD` (R22). -/
theorem writeOffset_cmd_of_idle {s : State} (idle : s.busy = false) (w : Word) :
    writeOffset 0x00 w s = acceptCommand w s :=
  if_neg (by simp [idle])

/-- The offsets that ignore a write: `STATUS`, `RESULT` and the unmapped ones (R23, R24, R33). -/
theorem writeOffset_ignored {o : Nat} (h : o ∈ [0x04, 0x08, 0x2C, 0x30, 0x34, 0x38, 0x3C]) (v : Word) (s : State) :
    writeOffset o v s = s := by
  simp only [List.mem_cons, List.not_mem_nil, or_false] at h
  rcases h with rfl | rfl | rfl | rfl | rfl | rfl | rfl <;> rfl

theorem toNat_statusWord (c : Code) (b : Bool) :
    (statusWord c b).toNat = (codeBits c).toNat + if b then 256 else 0 := by
  cases c <;> cases b <;> rfl

theorem toNat_flagsWord (b : Bool) : (flagsWord b).toNat = if b then 1 else 0 := by
  cases b <;> rfl

theorem toNat_setWidth_byte (b : Byte) : (b.setWidth 32).toNat = b.toNat :=
  BitVec.toNat_setWidth_of_le (by decide)

/-- A read changes the record of flights at most (R67, R76). -/
theorem observe_eq (o : Nat) (s : State) :
    observe o s = { s with inFlight := if o = 0x04 ∧ s.busy = false then [] else s.inFlight } := by
  by_cases h : o = 0x04 ∧ s.busy = false
  · rw [if_pos h]
    exact if_pos h
  · rw [if_neg h]
    exact if_neg h

/-- The register map as numbers: each of the sixteen offsets is a supported access and reads as its register's value, 0 at
the unmapped ones (R21 to R34). -/
theorem readOffset_of_mem {s : State} {o v : Nat}
    (h : (o, v) ∈ [(0x00, s.cmd.toNat), (0x04, (codeBits s.code).toNat + if s.busy then 256 else 0),
      (0x08, s.result.toNat), (0x0C, s.dest.toNat), (0x10, s.src.toNat), (0x14, s.len.toNat), (0x18, s.argA.toNat),
      (0x1C, s.argB.toNat), (0x20, s.word0.toNat), (0x24, s.word1.toNat), (0x28, if s.srcNull then 1 else 0),
      (0x2C, 0), (0x30, 0), (0x34, 0), (0x38, 0), (0x3C, 0)]) :
    o < 64 ∧ o % 4 = 0 ∧ (readOffset o s).toNat = v := by
  simp only [List.mem_cons, Prod.mk.injEq, List.not_mem_nil, or_false] at h
  rcases h with ⟨rfl, rfl⟩ | ⟨rfl, rfl⟩ | ⟨rfl, rfl⟩ | ⟨rfl, rfl⟩ | ⟨rfl, rfl⟩ | ⟨rfl, rfl⟩ | ⟨rfl, rfl⟩ | ⟨rfl, rfl⟩ |
    ⟨rfl, rfl⟩ | ⟨rfl, rfl⟩ | ⟨rfl, rfl⟩ | ⟨rfl, rfl⟩ | ⟨rfl, rfl⟩ | ⟨rfl, rfl⟩ | ⟨rfl, rfl⟩ | ⟨rfl, rfl⟩
  all_goals
    refine ⟨by decide, by decide, ?_⟩
    simp only [readOffset, regAt, readReg, toNat_statusWord, toNat_flagsWord, toNat_setWidth_byte, BitVec.toNat_ofNat,
      BitVec.ofNat_eq_ofNat, Nat.zero_mod]

/-! ### The statements about single registers -/

/-- Settles O43: `readReg` of each register of `State.resetWith`, whose other fields are the reset values by definition. -/
theorem resetValuesOfRegisters : Obligations.ResetValuesOfRegisters := by
  intro c r
  exact ⟨readReg_resetWith r c, rfl, rfl, rfl⟩

/-- Settles O44: an idle block takes the write as `acceptCommand`, whose latch is `capture`. -/
theorem acceptedCmdWriteCapturesTheLatch : Obligations.AcceptedCmdWriteCapturesTheLatch := by
  intro s w idle
  refine ⟨footprint s.cfg (capture w s) :: s.inFlight, ?_⟩
  rw [hostAct_write_word (by decide) (by decide), writeOffset_cmd_of_idle idle]
  rfl

/-- Settles O46: each offset takes the write as its register's own update. -/
theorem operandWritesKeepTheirDefinedBits : Obligations.OperandWritesKeepTheirDefinedBits := by
  intro s v
  have write : ∀ o, o < 64 → o % 4 = 0 →
      hostAct (.write o 4 (.lit (v.toNat : Int))) s = .next (hostNext (writeOffset o v s)) :=
    fun o ho h4 => hostAct_write_word ho h4 v s
  exact ⟨write 0x0C (by decide) (by decide), write 0x10 (by decide) (by decide), write 0x14 (by decide) (by decide),
    write 0x18 (by decide) (by decide), write 0x1C (by decide) (by decide), write 0x20 (by decide) (by decide),
    write 0x24 (by decide) (by decide), write 0x28 (by decide) (by decide)⟩

/-- Settles O47, by `writeOffset_ignored`. -/
theorem readOnlyAndUnmappedWritesAreIgnored : Obligations.ReadOnlyAndUnmappedWritesAreIgnored := by
  intro s v o ho
  have inBlock : ∀ k ∈ [0x04, 0x08, 0x2C, 0x30, 0x34, 0x38, 0x3C], k < 64 ∧ k % 4 = 0 := by decide
  obtain ⟨hlt, h4⟩ := inBlock o ho
  rw [hostAct_write hlt h4, writeOffset_ignored ho]
  rfl

/-- Settles O48: the value by `readOffset_of_mem`, the frame by `observe_eq`, the temporaries by the laws of
`writeTemp`. -/
theorem registerReadsReturnTheFields : Obligations.RegisterReadsReturnTheFields := by
  intro s x o v hov
  obtain ⟨hlt, h4, hv⟩ := readOffset_of_mem hov
  refine ⟨?_, readTemp_writeTemp _ _ _, fun y hy => readTemp_writeTemp_of_ne _ _ hy⟩
  rw [hostAct_read hlt h4, hv, observe_eq]
  rfl

end Sys2Proof.Machine
end

section
/-! Proofs, 10_state.md, what a turn keeps: the configuration (R40), and under the host's turn the outcome registers and the
hidden state (R23, R24, R37 to R39). -/

namespace Sys2Proof.Machine

/-! ### The host's turn -/

/-- What no host operation changes: the configuration, the outcome registers and the hidden state. -/
structure KeepsOutcome (s t : State) : Prop where
  cfg : t.cfg = s.cfg
  code : t.code = s.code
  result : t.result = s.result
  acc : t.acc = s.acc
  cur : t.cur = s.cur
  padCnt : t.padCnt = s.padCnt

theorem KeepsOutcome.refl (s : State) : KeepsOutcome s s := ⟨rfl, rfl, rfl, rfl, rfl, rfl⟩

theorem KeepsOutcome.trans {s t u : State} (h : KeepsOutcome s t) (k : KeepsOutcome t u) : KeepsOutcome s u :=
  ⟨k.cfg.trans h.cfg, k.code.trans h.code, k.result.trans h.result, k.acc.trans h.acc, k.cur.trans h.cur,
    k.padCnt.trans h.padCnt⟩

theorem hostNext_keepsOutcome (s : State) : KeepsOutcome s (hostNext s) := ⟨rfl, rfl, rfl, rfl, rfl, rfl⟩

theorem hostJump_keepsOutcome (k : Nat) (s : State) : KeepsOutcome s (hostJump k s) := ⟨rfl, rfl, rfl, rfl, rfl, rfl⟩

theorem setTemp_keepsOutcome (x : Nat) (v : Int) (s : State) : KeepsOutcome s (setTemp x v s) :=
  ⟨rfl, rfl, rfl, rfl, rfl, rfl⟩

theorem storeMem_keepsOutcome (a : Nat) (b : Byte) (s : State) : KeepsOutcome s (storeMem a b s) :=
  ⟨rfl, rfl, rfl, rfl, rfl, rfl⟩

theorem observe_keepsOutcome (o : Nat) (s : State) : KeepsOutcome s (observe o s) := by
  rw [observe_eq]
  exact ⟨rfl, rfl, rfl, rfl, rfl, rfl⟩

/-- An accepted `CMD` write keeps them too, `CUR` included (notes/assumptions/6.md). -/
theorem writeOffset_keepsOutcome (o : Nat) (v : Word) (s : State) : KeepsOutcome s (writeOffset o v s) := by
  rcases writeOffset_cases o v s with h | ⟨-, -, h⟩ | h | h | h | h | h | h | h | h <;>
    rw [h] <;> exact ⟨rfl, rfl, rfl, rfl, rfl, rfl⟩

theorem hostAct_keepsOutcome {op : HostOp} {s t : State} (h : hostAct op s = .next t) : KeepsOutcome s t := by
  rcases hostAct_next_cases h with ⟨o, v, rfl⟩ | ⟨o, x, v, rfl⟩ | ⟨a, b, -, -, rfl⟩ | ⟨x, v, rfl⟩ | rfl | ⟨k, rfl⟩
  · exact (writeOffset_keepsOutcome o v s).trans (hostNext_keepsOutcome _)
  · exact ((setTemp_keepsOutcome x v s).trans (observe_keepsOutcome o _)).trans (hostNext_keepsOutcome _)
  · exact (storeMem_keepsOutcome a b s).trans (hostNext_keepsOutcome _)
  · exact (setTemp_keepsOutcome x v s).trans (hostNext_keepsOutcome _)
  · exact hostNext_keepsOutcome s
  · exact hostJump_keepsOutcome k s

theorem hostTurn_keepsOutcome {s t : State} (h : hostTurn s = .next t) : KeepsOutcome s t := by
  unfold hostTurn at h
  split at h
  · exact hostAct_keepsOutcome h
  · injection h with h
    exact h ▸ KeepsOutcome.refl s

/-! ### The framer's turn -/

theorem framerTurn_of_idle {s : State} (idle : s.busy = false) : framerTurn s = .next s :=
  if_neg (by simp [idle])

theorem framerStep_cfg {s t : State} (h : framerStep s = .next t) : t.cfg = s.cfg := by
  rcases framerStep_cases s with ⟨c, -, hc⟩ | ⟨i, -, -, hi⟩
  · cases hc.symm.trans h
    rfl
  · cases hi.symm.trans h
    rfl

theorem framerTurn_cfg {s t : State} (h : framerTurn s = .next t) : t.cfg = s.cfg := by
  unfold framerTurn at h
  split at h
  · exact framerStep_cfg h
  · cases h
    rfl

theorem step_of_framer {s : State} (wf : s.cfg.wellFormed = true) (turn : nextTurn s = .framer) :
    step s = framerTurn (popTurn s) := by
  unfold step
  rw [if_pos wf, turn]

/-! ### The statements about turns -/

/-- Settles O39: `popTurn` moves the schedule only, and `hostTurn_keepsOutcome` does the rest. -/
theorem hostTurnKeepsOutcomeRegisters : Obligations.HostTurnKeepsOutcomeRegisters := by
  intro s t turn h
  rcases step_next_cases h with ⟨-, hh⟩ | ⟨hf, -⟩ | ⟨hr, -⟩
  · obtain ⟨-, code, result, acc, cur, padCnt⟩ := hostTurn_keepsOutcome hh
    exact ⟨code, result, acc, cur, padCnt⟩
  · cases turn.symm.trans hf
  · cases turn.symm.trans hr

/-- Settles O35: the head of the schedule gives the framer the turn, which an idle block lets pass. -/
theorem idleFramerDoesNothing : Obligations.IdleFramerDoesNothing := by
  intro s wf idle head
  rw [step_of_framer wf (nextTurn_of_head head), framerTurn_of_idle (s := popTurn s) idle]
  rfl

/-- Settles O40, turn by turn. -/
theorem stepKeepsTheConfiguration : Obligations.StepKeepsTheConfiguration := by
  intro s t h
  rcases step_next_cases h with ⟨-, host⟩ | ⟨-, framer⟩ | ⟨-, rfl⟩
  · exact (hostTurn_keepsOutcome host).cfg
  · exact framerTurn_cfg (s := popTurn s) framer
  · rfl

end Sys2Proof.Machine
end

section
/-! Proofs, 10_state.md R24 and R44: what a completion writes, and what its outcome depends on. -/

namespace Sys2Proof.Machine

/-! ### Completions with `OK` -/

@[simp] theorem okState_code (i : Instr) (s : State) : (okState i s).code = .ok := rfl
@[simp] theorem okState_result (i : Instr) (s : State) : (okState i s).result = BitVec.ofNat 32 (valueOf i s) := rfl
@[simp] theorem okState_mem (i : Instr) (s : State) :
    (okState i s).mem = s.mem.writeRange s.latch.destAddr (bytesOf i s) := rfl
@[simp] theorem failState_code (c : Code) (s : State) : (failState c s).code = c := rfl
@[simp] theorem failState_result (c : Code) (s : State) : (failState c s).result = sentinel := rfl

theorem memCheck_ne_ok (c : Config) (l : Latch) (nw nr : Nat) : memCheck c l nw nr ≠ some .ok := by
  unfold memCheck
  split_ifs <;> simp

/-- No check fails with `OK`. -/
theorem checksOf_ne_ok (i : Instr) (c : Config) (l : Latch) : checksOf i c l ≠ some .ok := by
  cases i with
  | sys | cmdType | cmdModes | cmdSpeed | cmdSelect | infoSpan | infoFormat => exact memCheck_ne_ok c l _ _
  | cmdWrite | infoName | infoSymbol | data | csum | wpad =>
    simp only [checksOf, checksCmdWrite, checksInfoName, checksInfoSymbol, checksData, checksCsum, checksWpad]
    split_ifs <;> simp [memCheck_ne_ok]
  | log2c | lcode | padsz =>
    simp only [checksOf, checksLog2c, checksLcode, checksPadsz]
    split_ifs <;> simp

/-- What a completion step answers is its `completion`. -/
theorem eq_completion_of_exec {i : Instr} {s t : State} (h : exec i s = .next t) :
    t = completion (checksOf i s.cfg s.latch) i s := by
  rw [exec_eq] at h
  injection h with h
  exact h.symm

/-- `CODE` tells which completion it was: with `OK` every check passed. -/
theorem eq_okState_of_exec {i : Instr} {s t : State} (h : exec i s = .next t) (ok : t.code = .ok) :
    checksOf i s.cfg s.latch = none ∧ t = okState i s := by
  have ht := eq_completion_of_exec h
  cases hchk : checksOf i s.cfg s.latch with
  | none => exact ⟨rfl, by rw [ht, hchk, completion]⟩
  | some c =>
    rw [hchk, completion] at ht
    rw [ht, failState_code] at ok
    exact absurd (ok ▸ hchk) (checksOf_ne_ok i s.cfg s.latch)

theorem mem_writers_of_mem_encoders {i : Instr} (hi : i ∈ encoders) : i ∈ writers :=
  List.mem_append_left _ hi

/-- A writer's `RESULT` counts its bytes (R24). -/
theorem valueOf_of_mem_writers {i : Instr} (hi : i ∈ writers) (s : State) : valueOf i s = (bytesOf i s).length := by
  cases i with
  | csum | log2c | lcode | padsz => exact absurd hi (by decide)
  | _ => rfl

theorem bytesOf_of_not_mem_writers {i : Instr} (hi : i ∉ writers) (s : State) : bytesOf i s = [] := by
  cases i with
  | csum | log2c | lcode | padsz => rfl
  | _ => exact absurd (by decide) hi

/-- The count fits `RESULT`, so the register holds it as it is. -/
theorem toNat_result_okState {i : Instr} {s : State} (hi : i ∈ writers) (hchk : checksOf i s.cfg s.latch = none) :
    (okState i s).result.toNat = (bytesOf i s).length := by
  have small := (nok_le hchk).1
  rw [← length_bytesOf hchk] at small
  rw [okState_result, valueOf_of_mem_writers hi, BitVec.toNat_ofNat, Nat.mod_eq_of_lt (by omega)]

theorem bytesAt_eq_readRange (m : Memory) (a n : Nat) : bytesAt m a n = m.readRange a n :=
  (Memory.readRange_eq_map m a n).symm

/-- The `RESULT` bytes at `L.DEST` after a writer's success are the bytes it emitted. -/
theorem bytesAt_okState {i : Instr} {s : State} (hi : i ∈ writers) (hchk : checksOf i s.cfg s.latch = none)
    (hwf : Memory.wf s.mem = true) :
    bytesAt (okState i s).mem s.latch.dest.toNat (okState i s).result.toNat = bytesOf i s := by
  rw [toNat_result_okState hi hchk, bytesAt_eq_readRange, okState_mem]
  exact Memory.readRange_writeRange hwf _ _

/-- Settles O18: the success writes `bytesOf` at `L.DEST`, as many as `RESULT` says. -/
theorem okWritesOnlyTheResultRange : Obligations.OkWritesOnlyTheResultRange := by
  intro i s t hwf hexec ok
  obtain ⟨hchk, rfl⟩ := eq_okState_of_exec hexec ok
  refine ⟨fun hi a outside => ?_, fun hi => ?_, fun hi => ?_⟩
  · rw [toNat_result_okState hi hchk] at outside
    rw [okState_mem, Memory.read_writeRange hwf, if_neg (by unfold Latch.destAddr; omega)]
  · rw [toNat_result_okState (mem_writers_of_mem_encoders hi) hchk, length_bytesOf hchk]
    exact (nok_le hchk).2 hi
  · rw [okState_mem, bytesOf_of_not_mem_writers hi, Memory.writeRange_nil]

/-! ### What the outcome depends on -/

/-- Two states that give the command `i` the same message: the same configuration, latches that differ in `L.DEST` at most,
and for a reader the same source bytes. -/
structure SameMessage (i : Instr) (s u : State) : Prop where
  cfg : u.cfg = s.cfg
  latch : ∃ d, u.latch = { s.latch with dest := d }
  source : i ∈ readers → sourceBytes u = sourceBytes s

theorem sourceBytes_eq_sourceOf (s : State) : sourceBytes s = sourceOf s :=
  Memory.readRange_eq_map _ _ _

/-- The bytes of a frame are read from the configuration, the latch other than `L.DEST`, and the source bytes. -/
theorem SameMessage.frameBody_eq {i : Instr} {s u : State} (h : SameMessage i s u) : frameBody i u = frameBody i s := by
  obtain ⟨hcfg, ⟨d, hlatch⟩, hsource⟩ := h
  cases i with
  | cmdWrite | infoName | infoSymbol | data =>
    rw [frameBody, frameBody, hsource (by decide), hcfg, hlatch]
    rfl
  | cmdType | cmdModes | cmdSpeed | cmdSelect | infoSpan | infoFormat =>
    rw [frameBody, frameBody, hcfg, hlatch]
    rfl
  | sys | csum | log2c | lcode | padsz | wpad => rfl

theorem SameMessage.bytesOf_eq {i : Instr} {s u : State} (h : SameMessage i s u) : bytesOf i u = bytesOf i s := by
  by_cases hi : i ∈ checksummed
  · rw [bytesOf_checksummed hi, bytesOf_checksummed hi, h.frameBody_eq]
  · obtain ⟨hcfg, ⟨d, hlatch⟩, -⟩ := h
    simp only [bytesOf, if_neg hi, hcfg, hlatch]
    rfl

theorem SameMessage.valueOf_eq {i : Instr} {s u : State} (h : SameMessage i s u) : valueOf i u = valueOf i s := by
  by_cases hi : i ∈ writers
  · rw [valueOf_of_mem_writers hi, valueOf_of_mem_writers hi, h.bytesOf_eq]
  · obtain ⟨-, ⟨d, hlatch⟩, hsource⟩ := h
    cases i with
    | csum => rw [valueOf, valueOf, hsource (by decide)]
    | log2c | lcode | padsz =>
      rw [valueOf, valueOf, hlatch]
      rfl
    | _ => exact absurd (by decide) hi

/-- The same message gives the same `RESULT` and the same written bytes, wherever it is written. -/
theorem SameMessage.okState_agree {i : Instr} {s u : State} (h : SameMessage i s u)
    (hs : Memory.wf s.mem = true) (hu : Memory.wf u.mem = true)
    (hchks : checksOf i s.cfg s.latch = none) (hchku : checksOf i u.cfg u.latch = none) :
    (okState i s).result = (okState i u).result ∧
      (i ∈ writers →
        bytesAt (okState i s).mem s.latch.dest.toNat (okState i s).result.toNat =
          bytesAt (okState i u).mem u.latch.dest.toNat (okState i u).result.toNat) := by
  refine ⟨?_, fun hi => ?_⟩
  · rw [okState_result, okState_result, h.valueOf_eq]
  · rw [bytesAt_okState hi hchks hs, bytesAt_okState hi hchku hu, h.bytesOf_eq]

/-- Settles O22, by `SameMessage.okState_agree`. -/
theorem sameMessageSameBytesAnywhere : Obligations.SameMessageSameBytesAnywhere := by
  intro i s u s' u' hs hu hcfg hlatch hsource hexecs hexecu oks oku
  have same : SameMessage i s u := ⟨hcfg.symm, ⟨u.latch.dest, hlatch⟩, fun hi => by
    rw [sourceBytes_eq_sourceOf, sourceBytes_eq_sourceOf, hsource hi]⟩
  obtain ⟨hchks, rfl⟩ := eq_okState_of_exec hexecs oks
  obtain ⟨hchku, rfl⟩ := eq_okState_of_exec hexecu oku
  exact same.okState_agree hs hu hchks hchku

/-- Settles O21: the checks read the configuration and the latch alone, so both states fail alike, or both succeed with the
same message. -/
theorem outcomeDependsOnlyOnLatchAndSource : Obligations.OutcomeDependsOnlyOnLatchAndSource := by
  intro i s u s' u' hs hu hcfg hlatch hsource hexecs hexecu
  have same : SameMessage i s u := ⟨hcfg.symm, ⟨s.latch.dest, hlatch.symm⟩, fun hi => by
    rw [sourceBytes_eq_sourceOf, sourceBytes_eq_sourceOf, hsource hi]⟩
  have hchku : checksOf i u.cfg u.latch = checksOf i s.cfg s.latch := by rw [hcfg, hlatch]
  obtain rfl := eq_completion_of_exec hexecs
  obtain rfl := eq_completion_of_exec hexecu
  cases hchk : checksOf i s.cfg s.latch with
  | some c =>
    rw [hchk] at hchku
    rw [hchku]
    exact ⟨rfl, rfl, fun _ ok => absurd (ok ▸ hchk) (checksOf_ne_ok i s.cfg s.latch)⟩
  | none =>
    rw [hchk] at hchku
    rw [hchku]
    obtain ⟨result, bytes⟩ := same.okState_agree hs hu hchk hchku
    exact ⟨rfl, result, fun hi _ => bytes hi⟩

end Sys2Proof.Machine
end

section
/-! Proofs, 20_memory.md, the footprints: `WF` and `RF` are what the command touches (R74), and they are apart (R78). -/

namespace Sys2Proof.Machine

/-! ### The footprints, by how the command completes -/

theorem footprint_of_reject {c : Config} {l : Latch} {r : Reject} (hdec : decode l.w = .error r) :
    footprint c l = Footprint.empty := by
  simp only [footprint, hdec]

theorem footprint_of_fails {c : Config} {l : Latch} {i : Instr} {e : Code} (hdec : decode l.w = .ok i)
    (hchk : checksOf i c l = some e) : footprint c l = Footprint.empty := by
  simp only [footprint, hdec, hchk]

theorem footprint_of_passes {c : Config} {l : Latch} {i : Instr} (hdec : decode l.w = .ok i)
    (hchk : checksOf i c l = none) :
    footprint c l = ⟨⟨l.destAddr, nok i l.count⟩, ⟨l.srcAddr, readCount i l.count⟩⟩ := by
  simp only [footprint, hdec, hchk]

theorem Span.has_eq_false_iff (r : Span) (a : Nat) : r.has a = false ↔ a < r.base ∨ r.base + r.size ≤ a := by
  rw [← Bool.not_eq_true, Span.has_iff]
  omega

/-- A writer's `RESULT` is the size of its write footprint; another command's is empty (R74, R127). -/
theorem nok_eq_result {i : Instr} {s : State} (hchk : checksOf i s.cfg s.latch = none) :
    nok i s.latch.count = if i ∈ writers then (okState i s).result.toNat else 0 := by
  by_cases hi : i ∈ writers
  · rw [if_pos hi, toNat_result_okState hi hchk, length_bytesOf hchk]
  · rw [if_neg hi, nok_not_writer hi]

/-! ### The statements about footprints -/

/-- Settles O19, by the three equations of `footprint`: a rejected word, a failed check, all checks passed. -/
theorem footprintIsWhatTheCommandTouches : Obligations.FootprintIsWhatTheCommandTouches := by
  refine ⟨fun r s hdec => ?_, fun i s t hdec hexec => ?_⟩
  · rw [footprint_of_reject hdec]
    exact ⟨rfl, rfl⟩
  · obtain rfl := eq_completion_of_exec hexec
    cases hchk : checksOf i s.cfg s.latch with
    | some e =>
      rw [footprint_of_fails hdec hchk]
      exact ⟨fun _ => ⟨rfl, rfl⟩, fun ok => absurd (hchk.trans (congrArg some ok)) (checksOf_ne_ok i s.cfg s.latch)⟩
    | none =>
      rw [footprint_of_passes hdec hchk, nok_eq_result hchk, readCount_eq]
      exact ⟨fun fails => absurd rfl fails, fun _ => ⟨rfl, rfl⟩⟩

/-- Settles O20: empty footprints have no address, and passed checks hold the two ranges apart (R214). -/
theorem footprintsNeverOverlap : Obligations.FootprintsNeverOverlap := by
  rintro c l a ⟨inWf, inRf⟩
  have not_empty : footprint c l ≠ Footprint.empty := fun he => by
    rw [he, Span.has_iff] at inWf
    exact Nat.not_lt.mpr inWf.1 inWf.2
  cases hdec : decode l.w with
  | error r => exact not_empty (footprint_of_reject hdec)
  | ok i =>
    cases hchk : checksOf i c l with
    | some e => exact not_empty (footprint_of_fails hdec hchk)
    | none =>
      rw [footprint_of_passes hdec hchk, Span.has_iff] at inWf inRf
      obtain ⟨-, -, apart⟩ := memFits_of_checks (s := { State.resetWith c with latch := l }) hchk
      simp only [Latch.destAddr, Latch.srcAddr] at inWf inRf apart
      have := apart (by omega) (by omega)
      omega

end Sys2Proof.Machine
end

section
/-! Proofs, 20_memory.md, the host's accesses: unsupported register accesses (R68), byte accesses inside and outside the
footprints in flight (R72, R76), and the `STATUS` read that ends the flight (R75). -/

namespace Sys2Proof.Machine

/-! ### Register accesses -/

theorem registerSlot_unsupported (c : Config) {o w : Nat} (ho : o < 64) (bad : w ≠ 4 ∨ o % 4 ≠ 0) :
    ∃ r, registerSlot c (c.framerBase + o) w = .error r := by
  have inBlock : ¬ (c.framerBase + o < c.framerBase ∨ c.framerBase + o ≥ c.framerBase + 64) := by omega
  unfold registerSlot
  rw [if_neg inBlock, Nat.add_sub_cancel_left]
  by_cases width : w ≠ 4
  · exact ⟨_, if_pos width⟩
  · rw [if_neg width]
    exact ⟨_, if_pos (bad.resolve_left width)⟩

/-! ### Byte accesses -/

theorem inMem_natCast {c : Config} {a : Nat} (ha : a < c.memSize) : inMem c (a : Int) = true := by
  simpa [inMem] using ha

theorem readHazard_eq_false_iff (fs : List Footprint) (a : Nat) :
    readHazard fs a = false ↔ ∀ f ∈ fs, f.wf.has a = false := by
  simp only [readHazard, List.any_eq_false, Bool.not_eq_true]

theorem writeHazard_eq_false_iff (fs : List Footprint) (a : Nat) :
    writeHazard fs a = false ↔ ∀ f ∈ fs, f.wf.has a = false ∧ f.rf.has a = false := by
  simp only [writeHazard, List.any_eq_false, Bool.not_eq_true, Bool.or_eq_false_iff]

theorem readHazard_of_mem {fs : List Footprint} {f : Footprint} {a : Nat} (hf : f ∈ fs) (h : f.wf.has a = true) :
    readHazard fs a = true :=
  List.any_eq_true.mpr ⟨f, hf, h⟩

theorem writeHazard_of_mem {fs : List Footprint} {f : Footprint} {a : Nat} (hf : f ∈ fs)
    (h : f.wf.has a = true ∨ f.rf.has a = true) : writeHazard fs a = true :=
  List.any_eq_true.mpr ⟨f, hf, Bool.or_eq_true_iff.mpr h⟩

/-- A store inside `MEM` faults on a hazard and else writes its byte. -/
theorem hostAct_storeByte {s : State} {a : Nat} (ha : a < s.cfg.memSize) (v : HostExpr) :
    hostAct (.storeByte (.lit (a : Int)) v) s =
      if writeHazard s.inFlight a then .fault .footprintHazard
      else .next (hostNext (storeMem a (busByte (evalExpr s.hostTemps v)) s)) := by
  rw [hostAct, hostStore, evalExpr, inMem_natCast ha]
  rfl

/-- A load inside `MEM` faults on a hazard and else sets its temporary to the byte. -/
theorem hostAct_loadByte {s : State} {a : Nat} (ha : a < s.cfg.memSize) (x : Nat) :
    hostAct (.loadByte (.lit (a : Int)) x) s =
      if readHazard s.inFlight a then .fault .footprintHazard
      else .next (hostNext (setTemp x ((s.mem.read a).toNat : Int) s)) := by
  rw [hostAct, hostLoad, evalExpr, inMem_natCast ha]
  rfl

theorem Wrote.write_byte {m : Memory} (hwf : Memory.wf m = true) (a : Nat) (b : Byte) :
    Wrote m (m.write a b) a [b] :=
  Memory.read_writeRange hwf a [b]

/-- Either completion leaves the control state alone, the flights included (R121, R217). -/
theorem framerStep_sameControl {s t : State} (h : framerStep s = .next t) : SameControl s t := by
  rcases framerStep_cases s with ⟨c, -, hc⟩ | ⟨i, -, -, hi⟩
  · cases hc.symm.trans h
    constructor <;> rfl
  · cases hi.symm.trans h
    constructor <;> rfl

/-! ### The statements about host accesses -/

/-- Settles O50: one footprint with the address is a hazard, and no completion changes the flights. -/
theorem footprintAccessFaults : Obligations.FootprintAccessFaults := by
  intro s f a x v hf ha
  refine ⟨fun touched => ?_, fun written => ?_, fun t ht => ?_⟩
  · rw [hostAct_storeByte ha, if_pos (writeHazard_of_mem hf touched)]
  · rw [hostAct_loadByte ha, if_pos (readHazard_of_mem hf written)]
  · rw [(framerStep_sameControl ht).inFlight]
    exact hf

/-- Settles O51: without a hazard the accesses happen; the byte by `Wrote.write_byte`, the temporaries by the laws of
`writeTemp`. -/
theorem hostByteAccessesOutsideFootprints : Obligations.HostByteAccessesOutsideFootprints := by
  intro s a x b hwf ha outsideWf
  refine ⟨⟨writeTemp s.hostTemps x ((s.mem.read a).toNat : Int), ?_, readTemp_writeTemp _ _ _,
    fun y hy => readTemp_writeTemp_of_ne _ _ hy⟩, fun outsideRf => ⟨s.mem.write a b, ?_, Wrote.write_byte hwf a b⟩⟩
  · have safe : readHazard s.inFlight a = false := (readHazard_eq_false_iff _ _).mpr outsideWf
    rw [hostAct_loadByte ha, if_neg (Bool.not_eq_true _ ▸ safe)]
    rfl
  · have safe : writeHazard s.inFlight a = false :=
      (writeHazard_eq_false_iff _ _).mpr fun f hf => ⟨outsideWf f hf, outsideRf f hf⟩
    rw [hostAct_storeByte ha, if_neg (Bool.not_eq_true _ ▸ safe), evalExpr, busByte_toNat]
    rfl

/-- Settles O49: the write and the read ask the same `registerSlot`. -/
theorem unsupportedRegisterAccessIsRefused : Obligations.UnsupportedRegisterAccessIsRefused := by
  intro s o w x v ho bad
  obtain ⟨r, hr⟩ := registerSlot_unsupported s.cfg ho bad
  exact ⟨r, by simp only [hostAct, hostWrite, hr], by simp only [hostAct, hostRead, hr]⟩

/-- Settles O52: `observe_eq` at the offset of `STATUS`. -/
theorem statusReadEndsTheFlight : Obligations.StatusReadEndsTheFlight := by
  intro s t x h
  rw [hostAct_read (by decide) (by decide), observe_eq] at h
  injection h with h
  subst h
  exact ⟨fun idle => if_pos ⟨rfl, idle⟩, fun busy => if_neg fun ended => Bool.false_ne_true (ended.2.symm.trans busy)⟩

end Sys2Proof.Machine
end

section
/-! Proofs, 20_memory.md R76: a completion step commutes with every host operation that respects the footprints and neither
starts nor observes a command. Each host update but a store moves the host's side of the state alone, and a completion moves
the block's side alone (`completed_withBlock`); a store outside the footprints changes no byte that the completion reads or
writes. -/

namespace Sys2Proof.Machine

/-! ### The completion as a function -/

/-- The state after the completion step of the latched word. -/
def completed (s : State) : State :=
  match fetch s with
  | .ok i => completion (checksOf i s.cfg s.latch) i s
  | .error _ => failState .eop s

theorem framerStep_eq_completed (s : State) : framerStep s = .next (completed s) := by
  unfold framerStep completed
  cases fetch s with
  | ok i => exact exec_eq i s
  | error r => rfl

theorem completed_sameControl (s : State) : SameControl s (completed s) :=
  framerStep_sameControl (framerStep_eq_completed s)

theorem completed_of_passes {s : State} {i : Instr} (hdec : decode s.latch.w = .ok i)
    (hchk : checksOf i s.cfg s.latch = none) : completed s = okState i s := by
  simp only [completed, fetch, hdec, hchk, completion]

/-- The configuration and the latch decide how the word completes: it fails, with empty footprints, or passes its checks. -/
theorem fails_or_passes (c : Config) (l : Latch) :
    (footprint c l = Footprint.empty ∧
      ∃ e, ∀ u : State, u.cfg = c → u.latch = l → completed u = failState e u) ∨
    ∃ i, decode l.w = .ok i ∧ checksOf i c l = none := by
  cases hdec : decode l.w with
  | error r =>
    refine .inl ⟨footprint_of_reject hdec, .eop, fun u _ hl => ?_⟩
    simp only [completed, fetch, hl, hdec]
  | ok i =>
    cases hchk : checksOf i c l with
    | some e =>
      refine .inl ⟨footprint_of_fails hdec hchk, e, fun u hc hl => ?_⟩
      simp only [completed, fetch, hc, hl, hdec, hchk, completion]
    | none => exact .inr ⟨i, rfl, hchk⟩

/-- A completion writes the bytes of its own write footprint and no other (R74). -/
theorem completed_mem (s : State) :
    ∃ bs, bs.length = (footprint s.cfg s.latch).wf.size ∧
      (completed s).mem = s.mem.writeRange (footprint s.cfg s.latch).wf.base bs := by
  rcases fails_or_passes s.cfg s.latch with ⟨hempty, e, hfail⟩ | ⟨i, hdec, hchk⟩
  · rw [hempty, hfail s rfl rfl]
    exact ⟨[], rfl, rfl⟩
  · rw [footprint_of_passes hdec hchk, completed_of_passes hdec hchk]
    exact ⟨bytesOf i s, length_bytesOf hchk, rfl⟩

/-- A byte outside the write footprint reads as before the completion. -/
theorem read_completed {s : State} (hwf : Memory.wf s.mem = true) {a : Nat}
    (outside : (footprint s.cfg s.latch).wf.has a = false) : (completed s).mem.read a = s.mem.read a := by
  obtain ⟨bs, hlen, hmem⟩ := completed_mem s
  rw [Span.has_eq_false_iff, ← hlen] at outside
  rw [hmem, Memory.read_writeRange hwf, if_neg (by omega)]

/-! ### The host's side of the state and the block's -/

/-- The host's side of `h` (its agent, the registers it writes, the model's records) with the block's side of `d` (what a
completion reads or changes). -/
def State.withBlock (h d : State) : State :=
  { h with
    cfg := d.cfg
    code := d.code
    busy := d.busy
    result := d.result
    latch := d.latch
    acc := d.acc
    cur := d.cur
    padCnt := d.padCnt
    mem := d.mem }

theorem SameMessage.accOf_eq {i : Instr} {s u : State} (h : SameMessage i s u) (hacc : u.acc = s.acc) :
    accOf i u = accOf i s := by
  cases i with
  | csum => exact congrArg checksum (h.source (by decide))
  | sys | log2c | lcode | padsz | wpad => exact hacc
  | _ => exact congrArg checksum h.frameBody_eq

theorem padAfter_congr {i : Instr} {s u : State} (hpad : u.padCnt = s.padCnt) : padAfter i u = padAfter i s := by
  cases i with
  | csum | log2c | lcode | padsz => exact hpad
  | _ => rfl

/-- The success of `u` with the message of `s`: `u`'s own fields, and the bytes, value and hidden state of `s`. -/
theorem SameMessage.okState_eq {i : Instr} {s u : State} (h : SameMessage i s u) (hacc : u.acc = s.acc)
    (hpad : u.padCnt = s.padCnt) :
    okState i u =
      { u with
        mem := u.mem.writeRange u.latch.destAddr (bytesOf i s)
        cur := (bytesOf i s).length
        acc := accOf i s
        padCnt := padAfter i s
        result := BitVec.ofNat 32 (valueOf i s)
        code := .ok
        busy := false } := by
  rw [okState, h.bytesOf_eq, h.valueOf_eq, h.accOf_eq hacc, padAfter_congr hpad]

/-- A completion reads and changes the block's side alone. -/
theorem completed_withBlock (h d : State) : completed (h.withBlock d) = h.withBlock (completed d) := by
  rcases fails_or_passes d.cfg d.latch with ⟨-, e, hfail⟩ | ⟨i, hdec, hchk⟩
  · rw [hfail d rfl rfl, hfail (h.withBlock d) rfl rfl]
    rfl
  · have same : SameMessage i d (h.withBlock d) := ⟨rfl, ⟨d.latch.dest, rfl⟩, fun _ => rfl⟩
    rw [completed_of_passes hdec hchk, completed_of_passes (s := h.withBlock d) hdec hchk, same.okState_eq rfl rfl]
    rfl

/-- An update that reads and changes the host's side alone. -/
def HostSide (f : State → State) : Prop := ∀ h d : State, f (h.withBlock d) = (f h).withBlock d

theorem hostNext_hostSide : HostSide hostNext := fun _ _ => rfl

theorem hostJump_hostSide (k : Nat) : HostSide (hostJump k) := fun _ _ => rfl

theorem setTemp_hostSide (x : Nat) (v : Int) : HostSide (setTemp x v) := fun _ _ => rfl

theorem regOffset_of_regAt {o : Nat} {r : Reg} (h : regAt o = some r) : regOffset r = o := by
  unfold regAt at h
  split at h <;> cases h <;> rfl

/-- A register write that starts no command (R22, R35). -/
theorem writeOffset_hostSide {o : Nat} (ho : o ≠ 0x00) (v : Word) : HostSide (writeOffset o v) := by
  intro h d
  unfold writeOffset
  cases hr : regAt o with
  | none => rfl
  | some r =>
    cases r with
    | cmd => exact absurd (regOffset_of_regAt hr).symm ho
    | _ => rfl

/-- An update of the host's side commutes with a completion. -/
theorem HostSide.completed {f : State → State} (hf : HostSide f) (s : State) : completed (f s) = f (completed s) := by
  calc Machine.completed (f s)
      = Machine.completed ((f s).withBlock s) := by rw [← hf s s]; rfl
    _ = (f s).withBlock (Machine.completed s) := completed_withBlock _ _
    _ = f (s.withBlock (Machine.completed s)) := (hf _ _).symm
    _ = f (Machine.completed s) := by rw [← completed_withBlock]; rfl

/-! ### Stores -/

/-- A store outside a reader's source leaves its source bytes alone. -/
theorem sourceBytes_storeMem {s : State} (hwf : Memory.wf s.mem = true) {a : Nat} (b : Byte)
    (outside : a < s.latch.srcAddr ∨ s.latch.srcAddr + s.latch.count ≤ a) :
    sourceBytes (storeMem a b s) = sourceBytes s :=
  Memory.readRange_congr fun k hk => by
    rw [storeMem_latch] at hk ⊢
    rw [storeMem_mem, Memory.read_write hwf, if_neg (by omega)]

/-- A store outside both footprints commutes with the completion. -/
theorem completed_storeMem {s : State} (hwf : Memory.wf s.mem = true) {a : Nat} (b : Byte)
    (outsideWf : (footprint s.cfg s.latch).wf.has a = false)
    (outsideRf : (footprint s.cfg s.latch).rf.has a = false) :
    completed (storeMem a b s) = storeMem a b (completed s) := by
  rcases fails_or_passes s.cfg s.latch with ⟨-, e, hfail⟩ | ⟨i, hdec, hchk⟩
  · rw [hfail s rfl rfl, hfail (storeMem a b s) rfl rfl]
    rfl
  · rw [footprint_of_passes hdec hchk, Span.has_eq_false_iff] at outsideWf outsideRf
    rw [← length_bytesOf hchk] at outsideWf
    have same : SameMessage i s (storeMem a b s) := ⟨rfl, ⟨s.latch.dest, rfl⟩, fun reads => by
      rw [readCount_eq, if_pos reads] at outsideRf
      exact sourceBytes_storeMem hwf b outsideRf⟩
    rw [completed_of_passes hdec hchk, completed_of_passes (s := storeMem a b s) hdec hchk, same.okState_eq rfl rfl,
      storeMem_mem, storeMem_latch, Memory.writeRange_write_comm hwf outsideWf]
    rfl

/-! ### Host operations -/

/-- Two states with the same control state read alike at every offset but those of `STATUS` and `RESULT`. -/
theorem SameControl.readOffset_eq {s t : State} (same : SameControl s t) {o : Nat} (status : o ≠ 0x04)
    (result : o ≠ 0x08) : readOffset o t = readOffset o s := by
  unfold readOffset
  cases hr : regAt o with
  | none => rfl
  | some r =>
    cases r with
    | status => exact absurd (regOffset_of_regAt hr).symm status
    | result => exact absurd (regOffset_of_regAt hr).symm result
    | _ =>
      simp only [readReg, same.cmd, same.dest, same.src, same.len, same.argA, same.argB, same.word0, same.word1,
        same.srcNull]

theorem observe_of_ne_status {o : Nat} (ho : o ≠ 0x04) (s : State) : observe o s = s :=
  if_neg fun h => ho h.1

/-- Outside the flights an address is outside the footprints of the busy command, which are in flight. -/
theorem State.Inv.outside_of_no_writeHazard {s : State} (inv : s.Inv) (busy : s.busy = true) {a : Nat}
    (safe : writeHazard s.inFlight a = false) :
    (footprint s.cfg s.latch).wf.has a = false ∧ (footprint s.cfg s.latch).rf.has a = false :=
  (writeHazard_eq_false_iff _ _).mp safe _ (inv.busyInFlight busy)

theorem State.Inv.outside_of_no_readHazard {s : State} (inv : s.Inv) (busy : s.busy = true) {a : Nat}
    (safe : readHazard s.inFlight a = false) : (footprint s.cfg s.latch).wf.has a = false :=
  (readHazard_eq_false_iff _ _).mp safe _ (inv.busyInFlight busy)

theorem hostWrite_completed {s s1 : State} {o w : Nat} {v : HostExpr} (free : timingFree s.cfg (.write o w v) = true)
    (h : hostWrite o w v s = .next s1) : hostWrite o w v (completed s) = .next (completed s1) := by
  have same := completed_sameControl s
  unfold hostWrite at h ⊢
  rw [same.cfg, same.hostTemps]
  unfold timingFree at free
  cases hslot : registerSlot s.cfg (s.cfg.framerBase + o) w with
  | error r => simp [hslot] at h
  | ok o' =>
    simp only [hslot, decide_eq_true_eq, Host.Outcome.next.injEq] at free h ⊢
    rw [← h, hostNext_hostSide.completed, (writeOffset_hostSide free _).completed]

theorem hostRead_completed {s s1 : State} {o w x : Nat} (free : timingFree s.cfg (.read o w x) = true)
    (h : hostRead o w x s = .next s1) : hostRead o w x (completed s) = .next (completed s1) := by
  have same := completed_sameControl s
  unfold hostRead at h ⊢
  rw [same.cfg]
  unfold timingFree at free
  cases hslot : registerSlot s.cfg (s.cfg.framerBase + o) w with
  | error r => simp [hslot] at h
  | ok o' =>
    simp only [hslot, Bool.and_eq_true, decide_eq_true_eq, Host.Outcome.next.injEq] at free h ⊢
    obtain ⟨status, result⟩ := free
    rw [← h, observe_of_ne_status status, observe_of_ne_status status, same.readOffset_eq status result,
      hostNext_hostSide.completed, (setTemp_hostSide _ _).completed]

theorem hostStore_completed {s s1 : State} (inv : s.Inv) (busy : s.busy = true) {a v : HostExpr}
    (h : hostStore a v s = .next s1) : hostStore a v (completed s) = .next (completed s1) := by
  have same := completed_sameControl s
  unfold hostStore at h ⊢
  rw [same.cfg, same.hostTemps, same.inFlight]
  split at h
  · cases h
  · split at h
    · cases h
    · rename_i inside safe
      obtain ⟨outsideWf, outsideRf⟩ := inv.outside_of_no_writeHazard busy (Bool.not_eq_true _ ▸ safe)
      cases h
      rw [if_neg inside, if_neg safe, hostNext_hostSide.completed,
        completed_storeMem inv.memCanonical _ outsideWf outsideRf]

theorem hostLoad_completed {s s1 : State} (inv : s.Inv) (busy : s.busy = true) {a : HostExpr} {x : Nat}
    (h : hostLoad a x s = .next s1) : hostLoad a x (completed s) = .next (completed s1) := by
  have same := completed_sameControl s
  unfold hostLoad at h ⊢
  rw [same.cfg, same.hostTemps, same.inFlight]
  split at h
  · cases h
  · split at h
    · cases h
    · rename_i inside safe
      have outsideWf := inv.outside_of_no_readHazard busy (Bool.not_eq_true _ ▸ safe)
      cases h
      rw [if_neg inside, if_neg safe, read_completed inv.memCanonical outsideWf, hostNext_hostSide.completed,
        (setTemp_hostSide _ _).completed]

theorem hostBranch_completed {s s1 : State} {c : HostCond} {l : Nat} (h : hostBranch c l s = .next s1) :
    hostBranch c l (completed s) = .next (completed s1) := by
  have same := completed_sameControl s
  unfold hostBranch at h ⊢
  rw [same.hostTemps, same.hostProg]
  split at h
  · rename_i taken
    rw [if_pos taken]
    cases hl : findLabel l s.hostProg with
    | none => simp [hl] at h
    | some k =>
      simp only [hl, Host.Outcome.next.injEq] at h ⊢
      rw [← h, (hostJump_hostSide k).completed]
  · rename_i skipped
    cases h
    rw [if_neg skipped, hostNext_hostSide.completed]

/-- A timing-free operation taken after the completion ends where the completion taken after it ends. -/
theorem hostAct_completed {s s1 : State} {op : HostOp} (inv : s.Inv) (busy : s.busy = true)
    (free : timingFree s.cfg op = true) (h : hostAct op s = .next s1) :
    hostAct op (completed s) = .next (completed s1) := by
  cases op with
  | write o w v => exact hostWrite_completed free h
  | read o w x => exact hostRead_completed free h
  | storeByte a v => exact hostStore_completed inv busy h
  | loadByte a x => exact hostLoad_completed inv busy h
  | assign x e =>
    cases h
    rw [hostAct, (completed_sameControl s).hostTemps, hostNext_hostSide.completed, (setTemp_hostSide _ _).completed]
  | label l =>
    cases h
    rw [hostAct, hostNext_hostSide.completed]
  | ifGoto c l => exact hostBranch_completed h

/-- Settles O53: the completion is the function `completed`, and `hostAct_completed` closes the square. -/
theorem completionCommutesWithTheHost : Obligations.CompletionCommutesWithTheHost := by
  intro s s1 op inv busy free h
  exact ⟨completed s, completed s1, framerStep_eq_completed s, hostAct_completed inv busy free h,
    framerStep_eq_completed s1⟩

end Sys2Proof.Machine
end

section
/-! Proofs, 30_encoding.md R80 to R83: which words decode to a command, which are reserved, and how a reserved word completes
(R215, R217). -/

namespace Sys2Proof

/-! ### The decoder, by the two fields of a word -/

/-- `OP` and `RSV` are the whole word (R80). -/
theorem toNat_eq_fields (w : Word) : w.toNat = 32 * rsvField w + opField w :=
  (Nat.div_add_mod w.toNat 32).symm

theorem toNat_encode_lt (i : Instr) : (encode i).toNat < 0x10 := by
  cases i <;> decide

/-- The map of R81 lists each command at the number its command word holds. -/
theorem opcodeMap_eq_some_iff {n : Nat} {i : Instr} : opcodeMap n = some i ↔ n = (encode i).toNat := by
  constructor
  · intro h
    unfold opcodeMap at h
    split at h <;> cases h <;> rfl
  · rintro rfl
    cases i <;> rfl

theorem opcodeMap_eq_none_iff {n : Nat} : opcodeMap n = none ↔ 0x10 ≤ n := by
  constructor
  · intro h
    by_contra low
    interval_cases n <;> cases h
  · intro high
    cases h : opcodeMap n with
    | none => rfl
    | some i =>
      have := toNat_encode_lt i
      have := opcodeMap_eq_some_iff.mp h
      omega

theorem decode_of_rsvField_ne_zero {w : Word} (hrsv : rsvField w ≠ 0) : decode w = .error .rsvNonzero :=
  if_pos hrsv

theorem decode_of_opcodeMap_none {w : Word} (hrsv : rsvField w = 0) (hop : opcodeMap (opField w) = none) :
    decode w = .error .opReserved := by
  unfold decode
  rw [if_neg (not_not_intro hrsv), hop]

theorem decode_of_opcodeMap_some {w : Word} {i : Instr} (hrsv : rsvField w = 0) (hop : opcodeMap (opField w) = some i) :
    decode w = .ok i := by
  unfold decode
  rw [if_neg (not_not_intro hrsv), hop]

theorem decode_eq_ok_iff {w : Word} {i : Instr} :
    decode w = .ok i ↔ rsvField w = 0 ∧ opcodeMap (opField w) = some i := by
  refine ⟨fun h => ?_, fun ⟨hrsv, hop⟩ => decode_of_opcodeMap_some hrsv hop⟩
  by_cases hrsv : rsvField w = 0
  · cases hop : opcodeMap (opField w) with
    | none => cases (decode_of_opcodeMap_none hrsv hop).symm.trans h
    | some j =>
      cases (decode_of_opcodeMap_some hrsv hop).symm.trans h
      exact ⟨hrsv, rfl⟩
  · cases (decode_of_rsvField_ne_zero hrsv).symm.trans h

/-- The reserved words of R83, by the two fields. -/
theorem exists_decode_eq_error_iff {w : Word} : (∃ r, decode w = .error r) ↔ 0x10 ≤ opField w ∨ rsvField w ≠ 0 := by
  constructor
  · rintro ⟨r, h⟩
    by_contra valid
    obtain ⟨low, hrsv⟩ := not_or.mp valid
    cases hop : opcodeMap (opField w) with
    | none => exact low (opcodeMap_eq_none_iff.mp hop)
    | some i => cases (decode_of_opcodeMap_some (not_not.mp hrsv) hop).symm.trans h
  · intro reserved
    by_cases hrsv : rsvField w = 0
    · have high := reserved.resolve_right (not_not_intro hrsv)
      exact ⟨_, decode_of_opcodeMap_none hrsv (opcodeMap_eq_none_iff.mpr high)⟩
    · exact ⟨_, decode_of_rsvField_ne_zero hrsv⟩

/-! ### The fields as bits -/

theorem bit4_eq_one_iff (w : Word) : w.extractLsb' 4 1 = 1#1 ↔ 0x10 ≤ opField w := by
  rw [← BitVec.toNat_inj, BitVec.extractLsb'_toNat, Nat.shiftRight_eq_div_pow]
  unfold opField
  simp only [BitVec.toNat_ofNat]
  omega

theorem bits31to5_ne_zero_iff (w : Word) : w.extractLsb' 5 27 ≠ 0#27 ↔ rsvField w ≠ 0 := by
  have := w.isLt
  rw [Ne, ← BitVec.toNat_inj, BitVec.extractLsb'_toNat, Nat.shiftRight_eq_div_pow]
  unfold rsvField
  simp only [BitVec.toNat_ofNat]
  omega

/-! ### The statements about the decoder -/

/-- Settles O29: the word of a command is the one with `RSV = 0` whose `OP` the map of R81 gives the command. -/
theorem decodeReadsExactlyTheEncodings : Obligations.DecodeReadsExactlyTheEncodings := by
  intro w i
  have fields := toNat_eq_fields w
  have small := toNat_encode_lt i
  have opSmall : opField w < 32 := Nat.mod_lt _ (by decide)
  calc decode w = .ok i
      ↔ rsvField w = 0 ∧ opcodeMap (opField w) = some i := decode_eq_ok_iff
    _ ↔ rsvField w = 0 ∧ opField w = (encode i).toNat := by rw [opcodeMap_eq_some_iff]
    _ ↔ w.toNat = (encode i).toNat := by omega
    _ ↔ w = encode i := BitVec.toNat_inj

/-- Settles O30: the two fields are the bits the statement names. -/
theorem reservedWordsAreRejected : Obligations.ReservedWordsAreRejected := by
  intro w
  rw [exists_decode_eq_error_iff, bit4_eq_one_iff, bits31to5_ne_zero_iff]

/-- Settles O31: five words are encodings, and two are reserved, one in each way. -/
theorem decodeOfWrittenOutWords : Obligations.DecodeOfWrittenOutWords := by
  have encodes : ∀ i, decode (encode i) = .ok i := fun i => (decodeReadsExactlyTheEncodings _ i).mpr rfl
  exact ⟨encodes .sys, encodes .cmdWrite, encodes .infoSymbol, encodes .data, encodes .wpad,
    decode_of_opcodeMap_none (by decide) rfl, decode_of_rsvField_ne_zero (by decide)⟩

namespace Machine

/-! ### A reserved word in the framer's turn -/

theorem failState_failsWith (c : Code) (s : State) : FailsWith s (failState c s) c :=
  ⟨rfl, rfl, rfl, rfl, by constructor <;> rfl⟩

theorem completed_of_reject {s : State} {r : Reject} (hdec : decode s.latch.w = .error r) :
    completed s = failState .eop s := by
  simp only [completed, fetch, hdec]

theorem framerTurn_of_busy {s : State} (busy : s.busy = true) : framerTurn s = .next (completed s) := by
  rw [framerTurn, if_pos busy, framerStep_eq_completed]

/-- Settles O34: the framer has the turn, and the latched word is rejected. -/
theorem reservedWordCompletesWithEop : Obligations.ReservedWordCompletesWithEop := by
  intro s wf busy turn reserved
  obtain ⟨r, hdec⟩ := exists_decode_eq_error_iff.mpr reserved
  refine ⟨failState .eop (popTurn s), ?_, failState_failsWith .eop (popTurn s)⟩
  rw [step_of_framer wf (nextTurn_busy turn busy), framerTurn_of_busy (s := popTurn s) busy,
    completed_of_reject (s := popTurn s) hdec]

end Machine
end Sys2Proof
end

section
/-! Proofs, 30_encoding.md R84, R85 and R90: the three fields of a tag, and the frame length that they tell. -/

namespace Sys2Proof

/-! ### What a well-formed configuration says of a tag's parts -/

theorem Config.base_low_bits {c : Config} (wf : c.wellFormed = true) {base : Byte}
    (hbase : base ∈ [c.sysBase, c.cmdBase, c.infoBase, c.dataBase]) : base &&& 0x3F = 0 := by
  obtain ⟨-, high, -⟩ := c.wellFormed_iff.mp wf
  simp only [BitVec.and_or_distrib_right, BitVec.ofNat_eq_ofNat, BitVec.or_eq_zero_iff] at high
  obtain ⟨⟨⟨hsys, hcmd⟩, hinfo⟩, hdata⟩ := high
  simp only [List.mem_cons, List.not_mem_nil, or_false] at hbase
  rcases hbase with rfl | rfl | rfl | rfl <;> assumption

theorem Config.bases_nodup {c : Config} (wf : c.wellFormed = true) :
    [c.sysBase, c.cmdBase, c.infoBase, c.dataBase].Nodup := by
  obtain ⟨-, -, distinct, -⟩ := c.wellFormed_iff.mp wf
  exact distinct

theorem Config.sub_le {c : Config} (wf : c.wellFormed = true) {sub : Byte} (hsub : sub ∈ c.subs) : sub ≤ 7 := by
  obtain ⟨-, -, -, small, -⟩ := c.wellFormed_iff.mp wf
  exact small sub (List.mem_append_left _ hsub)

namespace Machine

/-! ### The fields of a tag -/

/-- The fields of a byte that a receiver reads off a tag: bits [7:6], [5:3] and [2:0] (R85). -/
def HasFields (t base : Byte) (k : Nat) (sub : Byte) : Prop :=
  t &&& 0xC0 = base ∧ ((t >>> 3) &&& 7).toNat = k ∧ t &&& 7 = sub

theorem hasFields_base {base : Byte} : base &&& 0x3F = 0 → HasFields base base 0 0 := by
  revert base
  unfold HasFields
  decide

theorem hasFields_sub {sub : Byte} : sub ≤ 7 → HasFields sub 0 0 sub := by
  revert sub
  unfold HasFields
  decide

theorem hasFields_lengthCode {n : Nat} (hn : clog2 n ≤ 7) : HasFields (lengthCode n) 0 (clog2 n) 0 := by
  unfold lengthCode
  generalize clog2 n = k at hn
  unfold HasFields
  interval_cases k <;> decide

/-- Bytes OR field by field. -/
theorem HasFields.or {t t' base base' sub sub' : Byte} {k k' : Nat} (h : HasFields t base k sub)
    (h' : HasFields t' base' k' sub') : HasFields (t ||| t') (base ||| base') (k ||| k') (sub ||| sub') := by
  obtain ⟨rfl, rfl, rfl⟩ := h
  obtain ⟨rfl, rfl, rfl⟩ := h'
  refine ⟨BitVec.and_or_distrib_right, ?_, BitVec.and_or_distrib_right⟩
  rw [BitVec.ushiftRight_or_distrib, BitVec.and_or_distrib_right, BitVec.toNat_or]

/-- R85: the three ORed values of a tag occupy disjoint bits. -/
theorem hasFields_tag {base sub : Byte} {n : Nat} (hbase : base &&& 0x3F = 0) (hsub : sub ≤ 7) (hn : clog2 n ≤ 7) :
    HasFields (tag base sub n) base (clog2 n) sub := by
  simpa [tag] using ((hasFields_base hbase).or (hasFields_sub hsub)).or (hasFields_lengthCode hn)

theorem hasFields_sysTag {base sig : Byte} (hbase : base &&& 0x3F = 0) (hsig : sig ≤ 7) :
    HasFields (sysTag base sig) base 0 sig := by
  simpa [sysTag] using (hasFields_base hbase).or (hasFields_sub hsig)

/-- Settles O26, by `hasFields_tag`. -/
theorem tagFieldsAreDisjoint : Obligations.TagFieldsAreDisjoint := by
  intro c base sub n k wf hbase hsub pos hn hk
  obtain rfl := hk.eq_clog2 pos (by omega)
  exact hasFields_tag (Config.base_low_bits wf hbase) hsub ((clog2_le_five hn).trans (by decide))

/-! ### The length a tag tells -/

theorem lengthFromTag_of_fields {c : Config} {t base sub : Byte} {k : Nat} (h : HasFields t base k sub) :
    lengthFromTag c t = if base = c.sysBase then 1 else if base = c.infoBase then 3 + 2 ^ k else 2 + 2 ^ k := by
  obtain ⟨rfl, rfl, -⟩ := h
  rfl

theorem lengthFromTag_sys {c : Config} (wf : c.wellFormed = true) {sig : Byte} (hsig : sig ≤ 7) :
    lengthFromTag c (sysTag c.sysBase sig) = 1 := by
  rw [lengthFromTag_of_fields (hasFields_sysTag (Config.base_low_bits wf (by simp)) hsig), if_pos rfl]

/-- The tag of a base other than the system's tells the padded length, and whether a subtype byte stands before it. -/
theorem lengthFromTag_tag {c : Config} (wf : c.wellFormed = true) {base sub : Byte} {n : Nat}
    (hbase : base ∈ [c.cmdBase, c.infoBase, c.dataBase]) (hsub : sub ≤ 7) (hn : clog2 n ≤ 7) :
    lengthFromTag c (tag base sub n) = if base = c.infoBase then 3 + 2 ^ clog2 n else 2 + 2 ^ clog2 n := by
  have notSys : base ≠ c.sysBase := fun same => (List.nodup_cons.mp (Config.bases_nodup wf)).1 (same ▸ hbase)
  have low := Config.base_low_bits wf (List.mem_cons_of_mem c.sysBase hbase)
  rw [lengthFromTag_of_fields (hasFields_tag low hsub hn), if_neg notSys]

theorem lengthFromTag_cmd {c : Config} (wf : c.wellFormed = true) {sub : Byte} {n : Nat} (hsub : sub ∈ c.subs)
    (hn : clog2 n ≤ 7) : lengthFromTag c (tag c.cmdBase sub n) = 2 + 2 ^ clog2 n := by
  have notInfo : c.cmdBase ≠ c.infoBase := fun same => by simpa [same] using Config.bases_nodup wf
  rw [lengthFromTag_tag wf (by simp) (Config.sub_le wf hsub) hn, if_neg notInfo]

theorem lengthFromTag_info {c : Config} (wf : c.wellFormed = true) {sub : Byte} {n : Nat} (hsub : sub ≤ 7)
    (hn : clog2 n ≤ 7) : lengthFromTag c (tag c.infoBase sub n) = 3 + 2 ^ clog2 n := by
  rw [lengthFromTag_tag wf (by simp) hsub hn, if_pos rfl]

theorem lengthFromTag_data {c : Config} (wf : c.wellFormed = true) {sub : Byte} {n : Nat} (hsub : sub ≤ 7)
    (hn : clog2 n ≤ 7) : lengthFromTag c (tag c.dataBase sub n) = 2 + 2 ^ clog2 n := by
  have notInfo : c.dataBase ≠ c.infoBase := fun same => by simpa [same] using Config.bases_nodup wf
  rw [lengthFromTag_tag wf (by simp) hsub hn, if_neg notInfo]

/-! ### The first byte of a frame -/

theorem and_seven_le (b : Byte) : b &&& 7 ≤ 7 := by
  revert b
  decide

/-- An encoder writes at least its tag, which then stands at `L.DEST`. -/
theorem read_dest_okState {i : Instr} {s : State} (hi : i ∈ encoders) (hchk : checksOf i s.cfg s.latch = none)
    (hwf : Memory.wf s.mem = true) :
    Memory.read (okState i s).mem s.latch.dest.toNat = (bytesOf i s).getD 0 0 := by
  have pos := ((nok_le hchk).2 hi).1
  rw [← length_bytesOf hchk] at pos
  rw [okState_mem, Latch.destAddr, Memory.read_writeRange hwf, if_pos (by omega), Nat.sub_self]

theorem clog2_le_seven_of_padded_le {n : Nat} (h : padded n ≤ 35) : clog2 n ≤ 7 := by
  by_contra large
  have := Nat.pow_le_pow_right (show 0 < 2 by decide) (Nat.le_of_not_le large)
  unfold padded at h
  omega

/-- The first byte of an encoder's frame tells R127's count. -/
theorem lengthFromTag_head {i : Instr} {s : State} (hi : i ∈ encoders) (wf : s.cfg.wellFormed = true)
    (hchk : checksOf i s.cfg s.latch = none) :
    lengthFromTag s.cfg ((bytesOf i s).getD 0 0) = nok i s.latch.count := by
  have short := ((nok_le hchk).2 hi).2
  have small : padded s.latch.count ≤ 35 → clog2 s.latch.count ≤ 7 := clog2_le_seven_of_padded_le
  cases i with
  | sys => exact lengthFromTag_sys wf (and_seven_le _)
  | cmdType => exact lengthFromTag_cmd wf (by simp [Config.subs]) (by decide)
  | cmdModes => exact lengthFromTag_cmd wf (by simp [Config.subs]) (by decide)
  | cmdSpeed => exact lengthFromTag_cmd wf (by simp [Config.subs]) (by decide)
  | cmdSelect => exact lengthFromTag_cmd wf (by simp [Config.subs]) (by decide)
  | cmdWrite => exact lengthFromTag_cmd wf (by simp [Config.subs]) (small (by rw [nok] at short; omega))
  | infoName => exact lengthFromTag_info wf (and_seven_le _) (small (by rw [nok] at short; omega))
  | infoSpan => exact lengthFromTag_info wf (and_seven_le _) (by decide)
  | infoSymbol => exact lengthFromTag_info wf (and_seven_le _) (by decide)
  | infoFormat => exact lengthFromTag_info wf (and_seven_le _) (by decide)
  | data => exact lengthFromTag_data wf (and_seven_le _) (small (by rw [nok] at short; omega))
  | csum | log2c | lcode | padsz | wpad => exact absurd hi (by decide)

/-- Settles O25: the tag stands at `L.DEST` and tells the count that `RESULT` holds. -/
theorem tagTellsTheFrameLength : Obligations.TagTellsTheFrameLength := by
  intro i s t hi wf hwf hexec ok
  obtain ⟨hchk, rfl⟩ := eq_okState_of_exec hexec ok
  rw [read_dest_okState hi hchk hwf, lengthFromTag_head hi wf hchk,
    toNat_result_okState (mem_writers_of_mem_encoders hi) hchk, length_bytesOf hchk]

end Machine
end Sys2Proof
end

section
/-! Proofs, 30_encoding.md R91 and R93: the register writes of an accepted assembler form, and the latch they leave. -/

namespace Sys2Proof

/-! ### What an accepted form says of its operands (R91) -/

theorem Asm.wellFormed_iff (a : Asm) : a.wellFormed = true ↔ a.reject = none :=
  Option.isNone_iff_eq_none

theorem firstReject_nil : firstReject [] = none := rfl

theorem firstReject_cons_eq_none_iff (c : Bool × AsmReject) (cs : List (Bool × AsmReject)) :
    firstReject (c :: cs) = none ↔ c.1 = true ∧ firstReject cs = none := by
  obtain ⟨fits, r⟩ := c
  cases fits <;> simp [firstReject]

theorem addrFits_iff (a : Nat) : (addrFits a).1 = true ↔ a < 2 ^ 32 := decide_eq_true_iff

theorem wordFits_iff (w : Nat) : (wordFits w).1 = true ↔ w < 2 ^ 32 := decide_eq_true_iff

theorem byteFits_iff (b : Nat) : (byteFits b).1 = true ↔ b < 2 ^ 8 := decide_eq_true_iff

theorem lenFits_iff (n : Nat) : (lenFits n).1 = true ↔ n < 2 ^ 8 := decide_eq_true_iff

theorem srcFits_iff (src : AsmSrc) : (srcFits src).1 = true ↔ Machine.srcValue src < 2 ^ 32 := by
  cases src with
  | addr a => exact addrFits_iff a
  | null => decide

namespace Machine

/-! ### Bytes packed into a register word -/

theorem shiftLeft_or_eq_add {b : Nat} (hb : b < 2 ^ 8) (a : Nat) : a <<< 8 ||| b = a * 256 + b := by
  rw [← Nat.shiftLeft_add_eq_or_of_lt hb, Nat.shiftLeft_eq]

/-- The four byte operands that R93 packs into `ARGA`. -/
theorem pack4_eq_bytes {b0 b1 b2 : Nat} (h0 : b0 < 2 ^ 8) (h1 : b1 < 2 ^ 8) (h2 : b2 < 2 ^ 8) (b3 : Nat) :
    b3 <<< 24 ||| b2 <<< 16 ||| b1 <<< 8 ||| b0 = ((b3 * 256 + b2) * 256 + b1) * 256 + b0 := by
  calc b3 <<< 24 ||| b2 <<< 16 ||| b1 <<< 8 ||| b0
      = ((b3 <<< 8 ||| b2) <<< 8 ||| b1) <<< 8 ||| b0 := by
        simp only [Nat.shiftLeft_or_distrib, ← Nat.shiftLeft_add]
    _ = ((b3 * 256 + b2) * 256 + b1) * 256 + b0 := by
        rw [shiftLeft_or_eq_add h0, shiftLeft_or_eq_add h1, shiftLeft_or_eq_add h2]

/-- Two byte operands in `ARGA`, its upper bytes 0 (R93). -/
theorem pack2_eq_bytes {b0 : Nat} (h0 : b0 < 2 ^ 8) (b1 : Nat) :
    b1 <<< 8 ||| b0 = ((0 * 256 + 0) * 256 + b1) * 256 + b0 := by
  rw [shiftLeft_or_eq_add h0]
  omega

theorem toNat_ofNat_word {v : Nat} (hv : v < 2 ^ 32) : (BitVec.ofNat 32 v).toNat = v :=
  Nat.mod_eq_of_lt hv

theorem toNat_byteAt_ofNat {v : Nat} (hv : v < 2 ^ 32) (lo : Nat) :
    (byteAt (BitVec.ofNat 32 v) lo).toNat = v / 2 ^ lo % 256 := by
  rw [byteAt, BitVec.extractLsb'_toNat, toNat_ofNat_word hv, Nat.shiftRight_eq_div_pow]

/-- A byte operand stands in the low byte of its register. -/
theorem toNat_lowByte {b : Nat} (hb : b < 2 ^ 8) : (byteAt (BitVec.ofNat 32 b) 0).toNat = b := by
  rw [toNat_byteAt_ofNat (by omega)]
  omega

/-- The bytes of a register written with a number that is given by its bytes. -/
theorem toNat_byteAt_of_eq_bytes {x b0 b1 b2 b3 : Nat} (hx : x = ((b3 * 256 + b2) * 256 + b1) * 256 + b0)
    (h0 : b0 < 2 ^ 8) (h1 : b1 < 2 ^ 8) (h2 : b2 < 2 ^ 8) (h3 : b3 < 2 ^ 8) :
    x < 2 ^ 32 ∧ (byteAt (BitVec.ofNat 32 x) 0).toNat = b0 ∧ (byteAt (BitVec.ofNat 32 x) 8).toNat = b1 ∧
      (byteAt (BitVec.ofNat 32 x) 16).toNat = b2 ∧ (byteAt (BitVec.ofNat 32 x) 24).toNat = b3 := by
  have fits : x < 2 ^ 32 := by omega
  simp only [toNat_byteAt_ofNat fits]
  omega

theorem nullValue_lt (src : AsmSrc) : nullValue src < 2 ^ 32 := by
  cases src with
  | addr a => exact Nat.two_pow_pos 32
  | null => decide

/-- `FLAGS` keeps whether the form says `NULL` (R93). -/
theorem flagsKept_nullValue (src : AsmSrc) : flagsKept (BitVec.ofNat 32 (nullValue src)) = decide (src = .null) := by
  cases src with
  | addr a =>
    rw [nullValue, decide_eq_false AsmSrc.noConfusion]
    decide
  | null => rfl

/-! ### The writes of an expansion, one by one -/

/-- The writes, taken by the block, start the command of the form with the form's operands in the latch. -/
def Starts (ops : List HostOp) (s : State) (a : Asm) : Prop :=
  (applyWrites ops s).busy = true ∧ LatchHolds (applyWrites ops s).latch a

/-- The block takes a write of a constant that fits as that register's write. -/
theorem applyWrites_opW {v : Nat} (hv : v < 2 ^ 32) (r : Reg) (rest : List HostOp) (s : State) :
    applyWrites (opW r v :: rest) s = applyWrites rest (writeReg r (BitVec.ofNat 32 v) s) := by
  have carried : busWord (v : Int) = BitVec.ofNat 32 v := by
    rw [← busWord_toNat (BitVec.ofNat 32 v), toNat_ofNat_word hv]
  have reached : regAt (regOffset r) = some r := by cases r <;> rfl
  rw [opW, applyWrites, carried, writeOffset, reached]

/-- An idle block accepts the write of the command word. -/
theorem applyWrites_opCmd {s : State} (idle : s.busy = false) (i : Instr) :
    applyWrites [opCmd i] s = acceptCommand (encode i) s := by
  rw [opCmd, applyWrites, busWord_toNat]
  exact writeOffset_cmd_of_idle idle (encode i)

theorem Starts.write {r : Reg} {v : Nat} {rest : List HostOp} {s : State} {a : Asm} (hv : v < 2 ^ 32)
    (h : Starts rest (writeReg r (BitVec.ofNat 32 v) s) a) : Starts (opW r v :: rest) s a := by
  rw [Starts, applyWrites_opW hv]
  exact h

theorem Starts.writeByte {r : Reg} {b : Nat} {rest : List HostOp} {s : State} {a : Asm} (hb : b < 2 ^ 8)
    (h : Starts rest (writeReg r (BitVec.ofNat 32 b) s) a) : Starts (opW r b :: rest) s a :=
  Starts.write (hb.trans (by decide)) h

theorem Starts.cmd {i : Instr} {s : State} {a : Asm} (idle : s.busy = false)
    (h : LatchHolds (capture (encode i) s) a) : Starts [opCmd i] s a := by
  rw [Starts, applyWrites_opCmd idle]
  exact ⟨rfl, h⟩

/-- Each form writes its operands into their registers, which leaves the block idle, and the command write captures them. -/
theorem starts_expandWrites {a : Asm} {s : State} (fit : a.wellFormed = true) (idle : s.busy = false) :
    Starts (expandWrites a) s a := by
  rw [Asm.wellFormed_iff] at fit
  cases a <;> simp only [Asm.reject, firstReject_cons_eq_none_iff, firstReject_nil, addrFits_iff, wordFits_iff,
    byteFits_iff, lenFits_iff, srcFits_iff, and_true] at fit
  case sys d b | cmdType d b | cmdSelect d b =>
    obtain ⟨hd, hb⟩ := fit
    exact .write hd (.writeByte hb (.cmd idle ⟨rfl, toNat_ofNat_word hd, toNat_lowByte hb⟩))
  case cmdModes d m v =>
    obtain ⟨hd, hm, hv⟩ := fit
    obtain ⟨packed, a0, a1, -⟩ :=
      toNat_byteAt_of_eq_bytes (pack2_eq_bytes hm v) hm hv (by decide) (by decide)
    exact .write hd (.write packed (.cmd idle ⟨rfl, toNat_ofNat_word hd, a0, a1⟩))
  case cmdSpeed d sp =>
    obtain ⟨hd, hsp⟩ := fit
    exact .write hd (.write hsp (.cmd idle ⟨rfl, toNat_ofNat_word hd, toNat_ofNat_word hsp⟩))
  case cmdWrite d src n =>
    obtain ⟨hd, hsrc, hn⟩ := fit
    exact .write hd (.write hsrc (.writeByte hn (.write (nullValue_lt src) (.cmd idle
      ⟨rfl, toNat_ofNat_word hd, toNat_ofNat_word hsrc, flagsKept_nullValue src, toNat_lowByte hn⟩))))
  case infoName d m src n | infoSymbol d m src n | data d m src n =>
    obtain ⟨hd, hm, hsrc, hn⟩ := fit
    exact .write hd (.write hsrc (.writeByte hn (.writeByte hm (.write (nullValue_lt src) (.cmd idle
      ⟨rfl, toNat_ofNat_word hd, toNat_lowByte hm, toNat_ofNat_word hsrc, flagsKept_nullValue src,
        toNat_lowByte hn⟩)))))
  case infoSpan d m st lo hi =>
    obtain ⟨hd, hm, hst, hlo, hhi⟩ := fit
    obtain ⟨packed, a0, a1, -⟩ :=
      toNat_byteAt_of_eq_bytes (pack2_eq_bytes hm st) hm hst (by decide) (by decide)
    exact .write hd (.write packed (.write hlo (.write hhi (.cmd idle
      ⟨rfl, toNat_ofNat_word hd, a0, a1, toNat_ofNat_word hlo, toNat_ofNat_word hhi⟩))))
  case infoFormat d m e t w dp =>
    obtain ⟨hd, hm, he, ht, hw, hdp⟩ := fit
    obtain ⟨packed, a0, a1, a2, a3⟩ := toNat_byteAt_of_eq_bytes (pack4_eq_bytes hm he ht w) hm he ht hw
    exact .write hd (.write packed (.writeByte hdp (.cmd idle
      ⟨rfl, toNat_ofNat_word hd, a0, a1, a2, a3, toNat_lowByte hdp⟩)))
  case csum src n =>
    obtain ⟨hsrc, hn⟩ := fit
    exact .write hsrc (.writeByte hn (.write (nullValue_lt src) (.cmd idle
      ⟨rfl, toNat_ofNat_word hsrc, flagsKept_nullValue src, toNat_lowByte hn⟩)))
  case log2c n | lcode n | padsz n =>
    exact .writeByte fit (.cmd idle ⟨rfl, toNat_lowByte fit⟩)
  case wpad d n =>
    obtain ⟨hd, hn⟩ := fit
    exact .write hd (.writeByte hn (.cmd idle ⟨rfl, toNat_ofNat_word hd, toNat_lowByte hn⟩))

/-- Settles O32, by `starts_expandWrites`. -/
theorem assembledOperandsReachTheLatch : Obligations.AssembledOperandsReachTheLatch :=
  fun _ _ fit idle => starts_expandWrites fit idle

end Machine
end Sys2Proof
end

section
/-! Proofs, 40_primitives.md R120, R121 and R217: the framer's turn runs the latched command, and every completion is
precise. -/

namespace Sys2Proof.Machine

/-! ### The two completions -/

theorem exec_of_passes {i : Instr} {s : State} (hchk : checksOf i s.cfg s.latch = none) :
    exec i s = .next (okState i s) := by
  rw [exec_eq, completion_of_none hchk]

theorem exec_of_fails {i : Instr} {s : State} {c : Code} (hchk : checksOf i s.cfg s.latch = some c) :
    exec i s = .next (failState c s) := by
  rw [exec_eq, completion_of_some hchk]

theorem okState_completesOk (i : Instr) (s : State) : CompletesOk s (okState i s) (valueOf i s) :=
  ⟨rfl, rfl, rfl, by constructor <;> rfl⟩

theorem exists_failsWith_of_fails {i : Instr} {s : State} {c : Code} (hchk : checksOf i s.cfg s.latch = some c) :
    ∃ t, exec i s = .next t ∧ FailsWith s t c :=
  ⟨failState c s, exec_of_fails hchk, failState_failsWith c s⟩

/-- A command that is no writer completes with its value and writes no byte. -/
theorem exists_completesOk_of_not_mem_writers {i : Instr} {s : State} {v : Nat} (hi : i ∉ writers)
    (hchk : checksOf i s.cfg s.latch = none) (hv : valueOf i s = v) :
    ∃ t, exec i s = .next t ∧ CompletesOk s t v ∧ t.mem = s.mem := by
  refine ⟨okState i s, exec_of_passes hchk, hv ▸ okState_completesOk i s, ?_⟩
  rw [okState_mem, bytesOf_of_not_mem_writers hi, Memory.writeRange_nil]

theorem decode_encode (i : Instr) : decode (encode i) = .ok i :=
  (decodeReadsExactlyTheEncodings _ i).mpr rfl

theorem framerStep_of_decode {s : State} {i : Instr} (hdec : decode s.latch.w = .ok i) : framerStep s = exec i s := by
  simp only [framerStep, fetch, hdec]

/-! ### The statements about all commands -/

/-- Settles O33: the framer has the turn, the block is busy, and the latched word decodes. -/
theorem stepRunsTheLatchedCommand : Obligations.StepRunsTheLatchedCommand := by
  intro s i wf busy turn hdec
  calc step s = framerTurn (popTurn s) := step_of_framer wf (nextTurn_busy turn busy)
    _ = framerStep (popTurn s) := if_pos busy
    _ = exec i (popTurn s) := framerStep_of_decode (s := popTurn s) hdec

/-- Settles O17, by the two completions. -/
theorem everyCompletionIsPrecise : Obligations.EveryCompletionIsPrecise := by
  intro i s
  cases hchk : checksOf i s.cfg s.latch with
  | none =>
    obtain ⟨-, code, busy, same⟩ := okState_completesOk i s
    exact ⟨okState i s, exec_of_passes hchk, busy, same, .inl code⟩
  | some c =>
    obtain ⟨mem, result, -, busy, same⟩ := failState_failsWith c s
    exact ⟨failState c s, exec_of_fails hchk, busy, same, .inr ⟨mem, result⟩⟩

end Sys2Proof.Machine
end

section
/-! Proofs, 40_primitives.md R122 to R124 and R131 to R134: the laws of the padding, and the commands that yield a function of
the length. -/

namespace Sys2Proof.Machine

/-! ### The least exponent and the padding -/

theorem isClog2_two_pow (k : Nat) : IsClog2 (2 ^ k) k :=
  ⟨le_rfl, fun _ hj => Nat.pow_lt_pow_right (by decide) hj⟩

/-- The least power of two that reaches `n` is below `2 n`. -/
theorem IsClog2.two_pow_lt {n k : Nat} (hn : 1 ≤ n) (h : IsClog2 n k) : 2 ^ k < 2 * n := by
  cases k with
  | zero => rw [pow_zero]; omega
  | succ j =>
    have below := h.2 j (Nat.lt_succ_self j)
    rw [pow_succ]
    omega

theorem IsClog2.padCount_eq {n k : Nat} (hn : 1 ≤ n) (hn' : n ≤ 255) (h : IsClog2 n k) : padCount n = 2 ^ k - n := by
  rw [padCount, padded, h.eq_clog2 hn hn']

/-- R123's `& 0xFF` removes nothing, since `clog2` is at most 8. -/
theorem toNat_lengthCode (n : Nat) : (lengthCode n).toNat = clog2 n <<< 3 := by
  have small := clog2_le n
  have fits : clog2 n <<< 3 < 2 ^ 8 := by rw [Nat.shiftLeft_eq]; omega
  rw [lengthCode, lcShift, BitVec.toNat_ofNat, Nat.mod_eq_of_lt fits]

/-- Settles O27: all five laws follow from the least exponent's bounds and uniqueness. -/
theorem paddingLaws : Obligations.PaddingLaws := by
  intro n hn hn'
  have least := clog2_isClog2 hn hn'
  have sum := add_padCount hn'
  have below := least.two_pow_lt hn
  rw [padded] at sum
  refine ⟨least, clog2_le n, by omega, by omega, fun unpadded => ⟨clog2 n, by omega⟩, ?_⟩
  rintro ⟨k, rfl⟩
  rw [(isClog2_two_pow k).padCount_eq hn hn', Nat.sub_self]

/-! ### The commands that read the length alone -/

/-- LOG2C, LCODE and PADSZ: each yields a function of `L.LEN`, which must not be 0. -/
def lengthCommands : List Instr := [.log2c, .lcode, .padsz]

theorem checksOf_lengthCommand {i : Instr} (hi : i ∈ lengthCommands) (c : Config) (l : Latch) :
    checksOf i c l = if l.count = 0 then some .eundef else none := by
  cases i with
  | log2c | lcode | padsz => rfl
  | _ => exact absurd hi (by decide)

theorem not_mem_writers_of_lengthCommand {i : Instr} (hi : i ∈ lengthCommands) : i ∉ writers := by
  cases i with
  | log2c | lcode | padsz => decide
  | _ => exact absurd hi (by decide)

/-- The two clauses of R131 to R133, for the function `f` that the command yields of the least exponent. -/
theorem lengthCommand_outcomes {i : Instr} (hi : i ∈ lengthCommands) (s : State) (f : Nat → Nat)
    (hf : 1 ≤ s.latch.count → ∀ k, IsClog2 s.latch.count k → valueOf i s = f k) :
    (s.latch.count = 0 → ∃ t, exec i s = .next t ∧ FailsWith s t .eundef) ∧
    ∀ k, 0 < s.latch.count → IsClog2 s.latch.count k →
      ∃ t, exec i s = .next t ∧ CompletesOk s t (f k) ∧ t.mem = s.mem := by
  have checks := checksOf_lengthCommand hi s.cfg s.latch
  refine ⟨fun zero => ?_, fun k pos hk => ?_⟩
  · rw [if_pos zero] at checks
    exact exists_failsWith_of_fails checks
  · rw [if_neg pos.ne'] at checks
    exact exists_completesOk_of_not_mem_writers (not_mem_writers_of_lengthCommand hi) checks (hf pos k hk)

/-- Settles O13, by `lengthCommand_outcomes`. -/
theorem log2cYieldsTheCeilingLog : Obligations.Log2cYieldsTheCeilingLog := by
  rintro s _ rfl
  exact ⟨decode_encode .log2c, lengthCommand_outcomes (by decide) s id fun pos _ hk =>
    hk.eq_clog2 pos s.latch.count_le⟩

/-- Settles O14, by `lengthCommand_outcomes` and `toNat_lengthCode`. -/
theorem lcodeYieldsTheLengthCode : Obligations.LcodeYieldsTheLengthCode := by
  rintro s _ rfl
  refine ⟨decode_encode .lcode, lengthCommand_outcomes (by decide) s (· <<< 3) fun pos k hk => ?_⟩
  rw [valueOf, toNat_lengthCode, hk.eq_clog2 pos s.latch.count_le]

/-- Settles O15, by `lengthCommand_outcomes`. -/
theorem padszYieldsThePadding : Obligations.PadszYieldsThePadding := by
  rintro s _ rfl
  exact ⟨decode_encode .padsz, lengthCommand_outcomes (by decide) s (2 ^ · - s.latch.count) fun pos _ hk =>
    hk.padCount_eq pos s.latch.count_le⟩

/-! ### WPAD -/

/-- With nothing to read, `MEMCHECK` bounds the destination alone. -/
theorem memFits_write_iff (s : State) (nw : Nat) :
    MemFits s nw 0 ↔ (nw = 0 ∨ s.latch.dest.toNat + nw ≤ s.cfg.memSize) := by
  unfold MemFits
  omega

theorem checksOf_wpad_of_zero {s : State} (zero : s.latch.count = 0) :
    checksOf .wpad s.cfg s.latch = some .eundef :=
  if_pos zero

theorem checksOf_wpad_of_pos {s : State} (pos : 0 < s.latch.count) :
    checksOf .wpad s.cfg s.latch = memCheck s.cfg s.latch (padCount s.latch.count) 0 :=
  if_neg pos.ne'

theorem bytesOf_wpad (s : State) : bytesOf .wpad s = zeros (padCount s.latch.count) := rfl

theorem valueOf_wpad (s : State) : valueOf .wpad s = padCount s.latch.count := by
  rw [valueOf_of_mem_writers (by decide), bytesOf_wpad, length_zeros]

/-- A success writes its bytes at `L.DEST` and nothing else. -/
theorem okState_wrote (i : Instr) {s : State} (hwf : Memory.wf s.mem = true) :
    Wrote s.mem (okState i s).mem s.latch.dest.toNat (bytesOf i s) :=
  Memory.read_writeRange hwf _ _

/-- Settles O16: `MEMCHECK` sees the padding as the whole write; the success writes that many zeros and keeps `ACC`. -/
theorem wpadWritesThePadding : Obligations.WpadWritesThePadding := by
  rintro s _ hwf rfl
  refine ⟨decode_encode .wpad, fun zero => exists_failsWith_of_fails (checksOf_wpad_of_zero zero), fun k pos hk => ?_⟩
  have hpad : padCount s.latch.count = 2 ^ k - s.latch.len.toNat := hk.padCount_eq pos s.latch.count_le
  have checks := checksOf_wpad_of_pos pos
  rw [hpad] at checks
  refine ⟨fun nonempty outside => ?_, fun fits => ?_⟩
  · have unfit : ¬ MemFits s (2 ^ k - s.latch.len.toNat) 0 := by
      rw [memFits_write_iff]
      omega
    exact exists_failsWith_of_fails (checks.trans (memCheck_some unfit))
  · have passes := checks.trans (memCheck_none ((memFits_write_iff s _).mpr fits))
    rw [← hpad]
    exact ⟨okState .wpad s, exec_of_passes passes, valueOf_wpad s ▸ okState_completesOk .wpad s, rfl,
      okState_wrote .wpad hwf⟩

end Sys2Proof.Machine
end

section
/-! Proofs, 40_primitives.md R125 to R130: CSUM, and the checksum of a whole frame. -/

namespace Sys2Proof.Machine

/-! ### CSUM -/

/-- With nothing to write, `MEMCHECK` bounds the source alone. -/
theorem memFits_read_iff (s : State) (nr : Nat) :
    MemFits s 0 nr ↔ (nr = 0 ∨ s.latch.src.toNat + nr ≤ s.cfg.memSize) := by
  unfold MemFits
  omega

theorem checksOf_csum_of_absent {s : State} (pos : 0 < s.latch.count) (absent : s.latch.null = true) :
    checksOf .csum s.cfg s.latch = some .eundef :=
  if_pos ⟨pos, absent⟩

theorem checksOf_csum_of_present {s : State} (present : s.latch.count = 0 ∨ s.latch.null = false) :
    checksOf .csum s.cfg s.latch = memCheck s.cfg s.latch 0 s.latch.count := by
  refine if_neg fun ⟨pos, absent⟩ => ?_
  rcases present with zero | present
  · exact pos.ne' zero
  · exact Bool.false_ne_true (present.symm.trans absent)

theorem valueOf_csum (s : State) : valueOf .csum s = (csumOf (sourceOf s)).toNat := by
  rw [valueOf, checksum_eq_csumOf, sourceBytes_eq_sourceOf]

/-- CSUM of a range that it reads, which for no bytes asks nothing of `L.SRC` and `L.NULL`. -/
theorem csum_completesOk {s : State} (present : s.latch.count = 0 ∨ s.latch.null = false)
    (inside : s.latch.count = 0 ∨ s.latch.src.toNat + s.latch.count ≤ s.cfg.memSize) :
    ∃ t, exec .csum s = .next t ∧ CompletesOk s t (csumOf (sourceOf s)).toNat ∧ t.mem = s.mem := by
  have passes := memCheck_none ((memFits_read_iff s s.latch.count).mpr inside)
  exact exists_completesOk_of_not_mem_writers (by decide) ((checksOf_csum_of_present present).trans passes)
    (valueOf_csum s)

/-- Settles O12: of no bytes the checksum is its seed; the other clauses are the two checks and `csum_completesOk`. -/
theorem csumYieldsTheChecksum : Obligations.CsumYieldsTheChecksum := by
  rintro s _ rfl
  refine ⟨decode_encode .csum, fun zero => ?_,
    fun pos absent => exists_failsWith_of_fails (checksOf_csum_of_absent pos absent),
    fun pos present outside => ?_, fun _ present inside => csum_completesOk (.inr present) (.inr inside)⟩
  · have nothing : sourceOf s = [] := by rw [sourceOf, zero]; rfl
    have seed : (csumOf (sourceOf s)).toNat = 0xFF := by rw [nothing]; rfl
    exact seed ▸ csum_completesOk (.inl zero) (.inl zero)
  · have unfit : ¬ MemFits s 0 s.latch.count := by
      rw [memFits_read_iff, Latch.count]
      omega
    exact exists_failsWith_of_fails ((checksOf_csum_of_present (.inr present)).trans (memCheck_some unfit))

/-! ### Whole frames -/

theorem mem_writers_of_mem_checksummed {i : Instr} (hi : i ∈ checksummed) : i ∈ writers :=
  mem_writers_of_mem_encoders (List.mem_cons_of_mem _ hi)

/-- The bytes of a checksummed frame in `MEM`, its checksum included, XOR to the seed (R128). -/
theorem xorAll_bytesAt_okState {i : Instr} {s : State} (hi : i ∈ checksummed)
    (hchk : checksOf i s.cfg s.latch = none) (hwf : Memory.wf s.mem = true) :
    xorAll (bytesAt (okState i s).mem s.latch.dest.toNat (okState i s).result.toNat) = 0xFF := by
  rw [bytesAt_okState (mem_writers_of_mem_checksummed hi) hchk hwf, bytesOf_checksummed hi, xorAll_frameBytes]

/-- Settles O23, by `xorAll_bytesAt_okState`. -/
theorem frameBytesXorToSeed : Obligations.FrameBytesXorToSeed := by
  intro i s t hi hwf hexec ok
  obtain ⟨hchk, rfl⟩ := eq_okState_of_exec hexec ok
  exact xorAll_bytesAt_okState hi hchk hwf

/-- A written range lies in `MEM`, unless it is empty. -/
theorem result_okState_inside {i : Instr} {s : State} (hi : i ∈ writers) (hchk : checksOf i s.cfg s.latch = none) :
    (okState i s).result.toNat = 0 ∨ s.latch.dest.toNat + (okState i s).result.toNat ≤ s.cfg.memSize := by
  obtain ⟨inside, -, -⟩ := memFits_of_checks hchk
  rw [nok_eq_result hchk, if_pos hi] at inside
  omega

/-- Settles O24: CSUM may read what the encoder wrote, and its seed cancels the frame's XOR. -/
theorem csumOfAWholeFrameIsZero : Obligations.CsumOfAWholeFrameIsZero := by
  intro i s t u hi hwf hexec ok hmem hcfg hsrc hlen present
  obtain ⟨hchk, rfl⟩ := eq_okState_of_exec hexec ok
  have inside : u.latch.count = 0 ∨ u.latch.src.toNat + u.latch.count ≤ u.cfg.memSize := by
    rw [Latch.count, hlen, hsrc, hcfg]
    exact result_okState_inside (mem_writers_of_mem_checksummed hi) hchk
  have cancels : csumOf (sourceOf u) = 0 := by
    rw [csumOf, sourceOf, hmem, hsrc, hlen, xorAll_bytesAt_okState hi hchk hwf]
    rfl
  obtain ⟨v, hv, completes, -⟩ := csum_completesOk (.inr present) inside
  refine ⟨v, hv, completes.code, ?_⟩
  rw [completes.result, cancels]
  rfl

end Sys2Proof.Machine
end

section
/-! Proofs, 41_system.md R150: the outcomes of a writer, and the one byte of SYS. -/

namespace Sys2Proof.Machine

/-! ### The outcomes of a writer -/

/-- A writer whose checks pass yields the number of its bytes, and writes them at `L.DEST`. -/
theorem exists_completesOk_wrote {i : Instr} {s : State} (hi : i ∈ writers)
    (hchk : checksOf i s.cfg s.latch = none) (hwf : Memory.wf s.mem = true) :
    ∃ t, exec i s = .next t ∧ CompletesOk s t (bytesOf i s).length ∧
      Wrote s.mem t.mem s.latch.dest.toNat (bytesOf i s) :=
  ⟨okState i s, exec_of_passes hchk, valueOf_of_mem_writers hi s ▸ okState_completesOk i s, okState_wrote i hwf⟩

/-- The two clauses of a writer that reads no source and whose one check is the `MEMCHECK` of its own bytes. -/
theorem writer_outcomes_of_memCheck {i : Instr} {s : State} (hi : i ∈ writers) (nonempty : 0 < (bytesOf i s).length)
    (hchk : checksOf i s.cfg s.latch = memCheck s.cfg s.latch (bytesOf i s).length 0)
    (hwf : Memory.wf s.mem = true) :
    (s.latch.dest.toNat + (bytesOf i s).length ≤ s.cfg.memSize →
      ∃ t, exec i s = .next t ∧ CompletesOk s t (bytesOf i s).length ∧
        Wrote s.mem t.mem s.latch.dest.toNat (bytesOf i s)) ∧
    (s.cfg.memSize < s.latch.dest.toNat + (bytesOf i s).length →
      ∃ t, exec i s = .next t ∧ FailsWith s t .emem) := by
  refine ⟨fun inside => ?_, fun outside => ?_⟩
  · have fits := (memFits_write_iff s _).mpr (.inr inside)
    exact exists_completesOk_wrote hi (hchk.trans (memCheck_none fits)) hwf
  · have unfit : ¬ MemFits s (bytesOf i s).length 0 := by
      rw [memFits_write_iff]
      omega
    exact exists_failsWith_of_fails (hchk.trans (memCheck_some unfit))

/-! ### SYS -/

theorem bytesOf_sys (s : State) : bytesOf .sys s = [s.cfg.sysBase ||| (s.latch.a0 &&& 7)] := rfl

theorem checksOf_sys (c : Config) (l : Latch) : checksOf .sys c l = memCheck c l 1 0 := rfl

/-- Settles O1: SYS is a writer of one byte that `MEMCHECK` alone guards. -/
theorem sysEmitsOneByte : Obligations.SysEmitsOneByte := by
  intro s hwf
  have outcomes := writer_outcomes_of_memCheck (i := .sys) (by decide) Nat.one_pos (checksOf_sys s.cfg s.latch) hwf
  rw [bytesOf_sys] at outcomes
  exact ⟨decode_encode .sys, outcomes⟩

end Sys2Proof.Machine
end

section
/-! Proofs, 42_command.md R160 to R164: the outcomes of a checksummed frame, and the five frames of the command family. -/

namespace Sys2Proof.Machine

/-! ### The outcomes of a checksummed frame -/

theorem bytesOf_eq_checkedFrame {i : Instr} (hi : i ∈ checksummed) (s : State) :
    bytesOf i s = checkedFrame (frameBody i s) := by
  rw [bytesOf_checksummed hi, frameBytes, checksum_eq_csumOf, checkedFrame]

theorem length_checkedFrame (xs : List Byte) : (checkedFrame xs).length = xs.length + 1 := by
  rw [checkedFrame, List.length_append, List.length_singleton]

/-- The two clauses of an encoder without source bytes, whose frame has the fixed size `n`. -/
theorem fixedFrame_outcomes {i : Instr} (hi : i ∈ checksummed) {s : State} {xs : List Byte} {n : Nat}
    (body : frameBody i s = xs) (size : xs.length + 1 = n)
    (checks : checksOf i s.cfg s.latch = memCheck s.cfg s.latch n 0) (hwf : Memory.wf s.mem = true) :
    (s.latch.dest.toNat + n ≤ s.cfg.memSize →
      ∃ t, exec i s = .next t ∧ CompletesOk s t n ∧ Wrote s.mem t.mem s.latch.dest.toNat (checkedFrame xs)) ∧
    (s.cfg.memSize < s.latch.dest.toNat + n → ∃ t, exec i s = .next t ∧ FailsWith s t .emem) := by
  have bytes : bytesOf i s = checkedFrame xs := body ▸ bytesOf_eq_checkedFrame hi s
  have length : (bytesOf i s).length = n := by rw [bytes, length_checkedFrame, size]
  have nonempty : 0 < (bytesOf i s).length := by omega
  have outcomes := writer_outcomes_of_memCheck (mem_writers_of_mem_checksummed hi) nonempty (length.symm ▸ checks) hwf
  rwa [length, bytes] at outcomes

/-- The two clauses of an encoder with source bytes, once its length and its pointer have passed their checks. -/
theorem copyingFrame_outcomes {i : Instr} (hi : i ∈ checksummed) {s : State} {xs : List Byte} {nw nr : Nat}
    (body : frameBody i s = xs) (size : xs.length + 1 = nw)
    (checks : checksOf i s.cfg s.latch = memCheck s.cfg s.latch nw nr) (hwf : Memory.wf s.mem = true) :
    (¬ MemFits s nw nr → ∃ t, exec i s = .next t ∧ FailsWith s t .emem) ∧
    (MemFits s nw nr →
      ∃ t, exec i s = .next t ∧ CompletesOk s t nw ∧ Wrote s.mem t.mem s.latch.dest.toNat (checkedFrame xs)) := by
  refine ⟨fun unfit => exists_failsWith_of_fails (checks.trans (memCheck_some unfit)), fun fits => ?_⟩
  have success := exists_completesOk_wrote (mem_writers_of_mem_checksummed hi) (checks.trans (memCheck_none fits)) hwf
  rwa [bytesOf_eq_checkedFrame hi, body, length_checkedFrame, size] at success

/-! ### The tag and the payload -/

theorem lengthCode_one : lengthCode 1 = 0x00 := by decide

theorem lengthCode_two : lengthCode 2 = 0x08 := by decide

theorem lengthCode_four : lengthCode 4 = 0x10 := by decide

theorem IsClog2.lengthCode_eq {n k : Nat} (hn : 1 ≤ n) (hn' : n ≤ 255) (h : IsClog2 n k) :
    lengthCode n = BitVec.ofNat 8 (k <<< 3) := by
  rw [lengthCode, lcShift, h.eq_clog2 hn hn']

/-- A padded payload is the source bytes and the zeros up to the least power of two. -/
theorem paddedSource_eq {s : State} {k : Nat} (pos : 1 ≤ s.latch.count) (least : IsClog2 s.latch.count k) :
    sourceBytes s ++ zeros (padCount s.latch.count) =
      sourceOf s ++ List.replicate (2 ^ k - s.latch.count) 0 := by
  rw [sourceBytes_eq_sourceOf, zeros, least.padCount_eq pos s.latch.count_le]

/-- It has `2 ^ k` bytes (R87). -/
theorem length_paddedSource {s : State} {k : Nat} (least : IsClog2 s.latch.count k) :
    (sourceOf s ++ List.replicate (2 ^ k - s.latch.count) 0).length = 2 ^ k := by
  rw [List.length_append, List.length_replicate, ← sourceBytes_eq_sourceOf, length_sourceBytes,
    Nat.add_sub_cancel' least.1]

/-! ### CMD.TYPE, CMD.MODES, CMD.SPEED and CMD.SELECT -/

theorem frameBody_cmdType (s : State) :
    frameBody .cmdType s = [s.cfg.cmdBase ||| s.cfg.subType ||| 0x00, s.latch.a0] := by
  rw [frameBody, tag, lengthCode_one, Latch.devType]

theorem frameBody_cmdModes (s : State) :
    frameBody .cmdModes s =
      [s.cfg.cmdBase ||| s.cfg.subModes ||| 0x08, s.latch.a0 &&& 7, s.latch.a1 &&& 7] := by
  rw [frameBody, tag, lengthCode_two, Latch.modes, Latch.visible]

theorem frameBody_cmdSpeed (s : State) :
    frameBody .cmdSpeed s =
      [s.cfg.cmdBase ||| s.cfg.subSpeed ||| 0x10, s.latch.w0.extractLsb' 0 8, s.latch.w0.extractLsb' 8 8,
        s.latch.w0.extractLsb' 16 8, s.latch.w0.extractLsb' 24 8] := by
  rw [frameBody, tag, lengthCode_four, le32, Latch.speed]

theorem frameBody_cmdSelect (s : State) :
    frameBody .cmdSelect s = [s.cfg.cmdBase ||| s.cfg.subSelect ||| 0x00, s.latch.a0 &&& 7] := by
  rw [frameBody, tag, lengthCode_one, Latch.mode]

/-- Settles O2, by `fixedFrame_outcomes`. -/
theorem cmdTypeEmitsItsFrame : Obligations.CmdTypeEmitsItsFrame := fun s hwf =>
  ⟨decode_encode .cmdType, fixedFrame_outcomes (by decide) (frameBody_cmdType s) rfl rfl hwf⟩

/-- Settles O3, by `fixedFrame_outcomes`. -/
theorem cmdModesEmitsItsFrame : Obligations.CmdModesEmitsItsFrame := fun s hwf =>
  ⟨decode_encode .cmdModes, fixedFrame_outcomes (by decide) (frameBody_cmdModes s) rfl rfl hwf⟩

/-- Settles O4, by `fixedFrame_outcomes`. -/
theorem cmdSpeedEmitsItsFrame : Obligations.CmdSpeedEmitsItsFrame := fun s hwf =>
  ⟨decode_encode .cmdSpeed, fixedFrame_outcomes (by decide) (frameBody_cmdSpeed s) rfl rfl hwf⟩

/-- Settles O5, by `fixedFrame_outcomes`. -/
theorem cmdSelectEmitsItsFrame : Obligations.CmdSelectEmitsItsFrame := fun s hwf =>
  ⟨decode_encode .cmdSelect, fixedFrame_outcomes (by decide) (frameBody_cmdSelect s) rfl rfl hwf⟩

/-! ### CMD.WRITE -/

theorem checksOf_cmdWrite_of_outside {s : State} (outside : s.latch.count < 1 ∨ 24 < s.latch.count) :
    checksOf .cmdWrite s.cfg s.latch = some .einval :=
  if_pos (lenOutside_eq_true.mpr outside)

/-- With the length in range, the pointer is tested before the memory (R216). -/
theorem checksOf_cmdWrite_of_inside {s : State} (pos : 1 ≤ s.latch.count) (le : s.latch.count ≤ 24) :
    checksOf .cmdWrite s.cfg s.latch =
      if s.latch.null then some .eundef
      else memCheck s.cfg s.latch (2 + padded s.latch.count) s.latch.count :=
  if_neg (Bool.eq_false_iff.mp (lenOutside_eq_false.mpr ⟨pos, le⟩))

theorem checksOf_cmdWrite_of_absent {s : State} (pos : 1 ≤ s.latch.count) (le : s.latch.count ≤ 24)
    (absent : s.latch.null = true) : checksOf .cmdWrite s.cfg s.latch = some .eundef := by
  rw [checksOf_cmdWrite_of_inside pos le, if_pos absent]

theorem checksOf_cmdWrite_of_present {s : State} {k : Nat} (pos : 1 ≤ s.latch.count) (le : s.latch.count ≤ 24)
    (present : s.latch.null = false) (least : IsClog2 s.latch.count k) :
    checksOf .cmdWrite s.cfg s.latch = memCheck s.cfg s.latch (2 + 2 ^ k) s.latch.count := by
  rw [checksOf_cmdWrite_of_inside pos le, if_neg (Bool.eq_false_iff.mp present), padded,
    least.eq_clog2 pos s.latch.count_le]

theorem frameBody_cmdWrite {s : State} {k : Nat} (pos : 1 ≤ s.latch.count) (least : IsClog2 s.latch.count k) :
    frameBody .cmdWrite s =
      (s.cfg.cmdBase ||| s.cfg.subWrite ||| BitVec.ofNat 8 (k <<< 3)) ::
        (sourceOf s ++ List.replicate (2 ^ k - s.latch.count) 0) := by
  rw [frameBody, List.cons_append, paddedSource_eq pos least, tag, least.lengthCode_eq pos s.latch.count_le]

/-- Settles O6: the length and the pointer fail in R216's order, and the rest is `copyingFrame_outcomes`. -/
theorem cmdWriteEmitsItsFrame : Obligations.CmdWriteEmitsItsFrame := by
  rintro s _ hwf rfl
  refine ⟨decode_encode .cmdWrite, fun outside => exists_failsWith_of_fails (checksOf_cmdWrite_of_outside outside),
    fun pos le absent => exists_failsWith_of_fails (checksOf_cmdWrite_of_absent pos le absent),
    fun k pos le present least => ?_⟩
  have size := (congrArg (· + 2) (length_paddedSource least)).trans (Nat.add_comm _ 2)
  exact copyingFrame_outcomes (by decide) (frameBody_cmdWrite pos least) size
    (checksOf_cmdWrite_of_present pos le present least) hwf

end Sys2Proof.Machine
end

section
/-! Proofs, 43_info.md R180 to R183: the four frames of the information family. -/

namespace Sys2Proof.Machine

/-! ### INFO.SPAN and INFO.FORMAT -/

theorem lengthCode_eight : lengthCode 8 = 0x18 := by decide

theorem frameBody_infoSpan (s : State) :
    frameBody .infoSpan s =
      [s.cfg.infoBase ||| (s.latch.a0 &&& 7) ||| 0x18, s.latch.a1,
        s.latch.w0.extractLsb' 0 8, s.latch.w0.extractLsb' 8 8, s.latch.w0.extractLsb' 16 8,
        s.latch.w0.extractLsb' 24 8, s.latch.w1.extractLsb' 0 8, s.latch.w1.extractLsb' 8 8,
        s.latch.w1.extractLsb' 16 8, s.latch.w1.extractLsb' 24 8] := by
  rw [frameBody, tag, lengthCode_eight, Latch.mode, Latch.spanType, le32, le32, Latch.lower, Latch.upper]
  rfl

theorem frameBody_infoFormat (s : State) :
    frameBody .infoFormat s =
      [s.cfg.infoBase ||| (s.latch.a0 &&& 7) ||| 0x10, 0x80, s.latch.a1 &&& 0x3F, s.latch.a2 &&& 0x03,
        s.latch.a3 &&& 0x0F, s.latch.a4 &&& 0x0F] := by
  rw [frameBody, tag, lengthCode_four, Latch.mode, infoFormatSub, Latch.elems, Latch.dtype, Latch.width, Latch.decimals]

/-- Settles O8, by `fixedFrame_outcomes`. -/
theorem infoSpanEmitsItsFrame : Obligations.InfoSpanEmitsItsFrame := fun s hwf =>
  ⟨decode_encode .infoSpan, fixedFrame_outcomes (by decide) (frameBody_infoSpan s) rfl rfl hwf⟩

/-- Settles O10, by `fixedFrame_outcomes`. -/
theorem infoFormatEmitsItsFrame : Obligations.InfoFormatEmitsItsFrame := fun s hwf =>
  ⟨decode_encode .infoFormat, fixedFrame_outcomes (by decide) (frameBody_infoFormat s) rfl rfl hwf⟩

/-! ### The one test of INFO.NAME and INFO.SYMBOL before the memory check

Unlike CMD.WRITE, both answer EINVAL to a length out of range and to an absent pointer (R180, R182). -/

theorem lenOutside_or_null_eq_true {hi : Nat} {l : Latch} :
    (lenOutside hi l.count || l.null) = true ↔ l.count < 1 ∨ hi < l.count ∨ l.null = true := by
  rw [Bool.or_eq_true, lenOutside_eq_true, or_assoc]

theorem lenOutside_or_null_ne_true {hi : Nat} {l : Latch} (pos : 1 ≤ l.count) (le : l.count ≤ hi)
    (present : l.null = false) : ¬ (lenOutside hi l.count || l.null) = true := by
  rw [lenOutside_eq_false.mpr ⟨pos, le⟩, present]
  exact Bool.false_ne_true

/-! ### INFO.NAME -/

theorem checksOf_infoName_of_invalid {s : State}
    (invalid : s.latch.count < 1 ∨ 32 < s.latch.count ∨ s.latch.null = true) :
    checksOf .infoName s.cfg s.latch = some .einval :=
  if_pos (lenOutside_or_null_eq_true.mpr invalid)

theorem checksOf_infoName_of_valid {s : State} {k : Nat} (pos : 1 ≤ s.latch.count) (le : s.latch.count ≤ 32)
    (present : s.latch.null = false) (least : IsClog2 s.latch.count k) :
    checksOf .infoName s.cfg s.latch = memCheck s.cfg s.latch (3 + 2 ^ k) s.latch.count := by
  rw [← least.eq_clog2 pos s.latch.count_le]
  exact if_neg (lenOutside_or_null_ne_true pos le present)

/-- As in R180's statement, Lean reads the mask beside `BitVec.ofNat` as the cast of a number. -/
theorem frameBody_infoName {s : State} {k : Nat} (pos : 1 ≤ s.latch.count) (least : IsClog2 s.latch.count k) :
    frameBody .infoName s =
      (s.cfg.infoBase ||| (s.latch.a0 &&& 7) ||| BitVec.ofNat 8 (k <<< 3)) :: 0x00 ::
        (sourceOf s ++ List.replicate (2 ^ k - s.latch.count) 0) := by
  rw [frameBody, List.cons_append, List.cons_append, paddedSource_eq pos least, tag,
    least.lengthCode_eq pos s.latch.count_le, Latch.mode, infoNameSub, Nat.cast_ofNat]

/-- Settles O7: one test answers EINVAL, and the rest is `copyingFrame_outcomes`. -/
theorem infoNameEmitsItsFrame : Obligations.InfoNameEmitsItsFrame := by
  rintro s _ hwf rfl
  refine ⟨decode_encode .infoName, fun invalid => exists_failsWith_of_fails (checksOf_infoName_of_invalid invalid),
    fun k pos le present least => ?_⟩
  have size := (congrArg (· + 3) (length_paddedSource least)).trans (Nat.add_comm _ 3)
  exact copyingFrame_outcomes (by decide) (frameBody_infoName pos least) size
    (checksOf_infoName_of_valid pos le present least) hwf

/-! ### INFO.SYMBOL -/

theorem checksOf_infoSymbol_of_invalid {s : State}
    (invalid : s.latch.count < 1 ∨ 8 < s.latch.count ∨ s.latch.null = true) :
    checksOf .infoSymbol s.cfg s.latch = some .einval :=
  if_pos (lenOutside_or_null_eq_true.mpr invalid)

theorem checksOf_infoSymbol_of_valid {s : State} (pos : 1 ≤ s.latch.count) (le : s.latch.count ≤ 8)
    (present : s.latch.null = false) :
    checksOf .infoSymbol s.cfg s.latch = memCheck s.cfg s.latch 11 s.latch.count :=
  if_neg (lenOutside_or_null_ne_true pos le present)

theorem frameBody_infoSymbol (s : State) :
    frameBody .infoSymbol s =
      (s.cfg.infoBase ||| (s.latch.a0 &&& 7) ||| 0x18) :: 0x04 ::
        (sourceOf s ++ List.replicate (8 - s.latch.count) 0) := by
  rw [frameBody, List.cons_append, List.cons_append, tag, lengthCode_eight, Latch.mode, infoSymbolSub,
    sourceBytes_eq_sourceOf, zeros, symbolPadCount, maxSymbol]

/-- The flat padding fills the symbol to 8 bytes whatever its length is, so the frame has one size. -/
theorem length_symbolField {s : State} (le : s.latch.count ≤ 8) :
    (sourceOf s ++ List.replicate (8 - s.latch.count) (0 : Byte)).length = 8 := by
  rw [List.length_append, List.length_replicate, ← sourceBytes_eq_sourceOf, length_sourceBytes,
    Nat.add_sub_cancel' le]

/-- Settles O9: one test answers EINVAL, and the rest is `copyingFrame_outcomes` with a frame of 11 bytes. -/
theorem infoSymbolEmitsItsFrame : Obligations.InfoSymbolEmitsItsFrame := by
  rintro s _ hwf rfl
  refine ⟨decode_encode .infoSymbol, fun invalid => exists_failsWith_of_fails (checksOf_infoSymbol_of_invalid invalid),
    fun pos le present => ?_⟩
  have size := congrArg (· + 3) (length_symbolField le)
  exact copyingFrame_outcomes (by decide) (frameBody_infoSymbol s) size
    (checksOf_infoSymbol_of_valid pos le present) hwf

end Sys2Proof.Machine
end

section
/-! Proofs, 44_data.md R200: the data frame. -/

namespace Sys2Proof.Machine

theorem checksOf_data_of_outside {s : State} (outside : s.latch.count < 1 ∨ 32 < s.latch.count) :
    checksOf .data s.cfg s.latch = some .einval :=
  if_pos (lenOutside_eq_true.mpr outside)

/-- With the length in range, the pointer is tested before the memory (R216). -/
theorem checksOf_data_of_inside {s : State} (pos : 1 ≤ s.latch.count) (le : s.latch.count ≤ 32) :
    checksOf .data s.cfg s.latch =
      if s.latch.null then some .eundef
      else memCheck s.cfg s.latch (2 + padded s.latch.count) s.latch.count :=
  if_neg (Bool.eq_false_iff.mp (lenOutside_eq_false.mpr ⟨pos, le⟩))

theorem checksOf_data_of_absent {s : State} (pos : 1 ≤ s.latch.count) (le : s.latch.count ≤ 32)
    (absent : s.latch.null = true) : checksOf .data s.cfg s.latch = some .eundef :=
  (checksOf_data_of_inside pos le).trans (if_pos absent)

theorem checksOf_data_of_present {s : State} {k : Nat} (pos : 1 ≤ s.latch.count) (le : s.latch.count ≤ 32)
    (present : s.latch.null = false) (least : IsClog2 s.latch.count k) :
    checksOf .data s.cfg s.latch = memCheck s.cfg s.latch (2 + 2 ^ k) s.latch.count := by
  rw [← least.eq_clog2 pos s.latch.count_le]
  exact (checksOf_data_of_inside pos le).trans (if_neg (Bool.eq_false_iff.mp present))

/-- As in R200's statement, Lean reads the mask beside `BitVec.ofNat` as the cast of a number. -/
theorem frameBody_data {s : State} {k : Nat} (pos : 1 ≤ s.latch.count) (least : IsClog2 s.latch.count k) :
    frameBody .data s =
      (s.cfg.dataBase ||| (s.latch.a0 &&& 7) ||| BitVec.ofNat 8 (k <<< 3)) ::
        (sourceOf s ++ List.replicate (2 ^ k - s.latch.count) 0) := by
  rw [frameBody, List.cons_append, paddedSource_eq pos least, tag, least.lengthCode_eq pos s.latch.count_le,
    Latch.mode, Nat.cast_ofNat]

/-- Settles O11: the length and the pointer fail in R216's order, and the rest is `copyingFrame_outcomes`. -/
theorem dataEmitsItsFrame : Obligations.DataEmitsItsFrame := by
  rintro s _ hwf rfl
  refine ⟨decode_encode .data, fun outside => exists_failsWith_of_fails (checksOf_data_of_outside outside),
    fun pos le absent => exists_failsWith_of_fails (checksOf_data_of_absent pos le absent),
    fun k pos le present least => ?_⟩
  have size := (congrArg (· + 2) (length_paddedSource least)).trans (Nat.add_comm _ 2)
  exact copyingFrame_outcomes (by decide) (frameBody_data pos least) size
    (checksOf_data_of_present pos le present least) hwf

end Sys2Proof.Machine
end

section
/-! Proofs, 60_exceptions.md R210: no turn of the block stops the machine. -/

namespace Sys2Proof.Machine

theorem exists_framerTurn_eq_next (s : State) : ∃ t, framerTurn s = .next t := by
  cases busy : s.busy with
  | true => exact ⟨completed s, framerTurn_of_busy busy⟩
  | false => exact ⟨s, framerTurn_of_idle busy⟩

theorem step_of_reset {s : State} (wf : s.cfg.wellFormed = true) (turn : nextTurn s = .reset) :
    step s = .next (resetBlock (popTurn s)) := by
  unfold step
  rw [if_pos wf, turn]

/-- Settles O37: the framer's turn and the reset input always answer a next state. -/
theorem onlyTheHostCanStop : Obligations.OnlyTheHostCanStop := by
  intro s wf stops
  cases turn : nextTurn s with
  | host => rfl
  | framer =>
    obtain ⟨t, ht⟩ := exists_framerTurn_eq_next (popTurn s)
    exact absurd ((step_of_framer wf turn).trans ht) (stops t)
  | reset => exact absurd (step_of_reset wf turn) (stops _)

end Sys2Proof.Machine
end

section
/-! Proofs, 60_exceptions.md R224: the instances of a platform share `MEM` alone, and completions whose footprints are apart
commute. -/

namespace Sys2Proof.Machine

/-! ### Footprints apart -/

theorem FootprintsApart.symm {f g : Footprint} (apart : FootprintsApart f g) : FootprintsApart g f := by
  refine fun a => ⟨fun inG => ⟨Bool.eq_false_iff.mpr fun inF => ?_, (apart a).2 inG⟩, fun inF => ((apart a).1 inF).2⟩
  exact Bool.eq_false_iff.mp ((apart a).1 inF).1 inG

/-- The platform's test on ranges says of every address what R224 asks. -/
theorem footprintsApart_of_not_clash {f g : Footprint} (h : f.clash g = false) : FootprintsApart f g := by
  simp only [Footprint.clash, Bool.or_eq_false_iff] at h
  obtain ⟨⟨wfWf, wfRf⟩, rfWf⟩ := h
  refine fun a => ⟨fun inWf => ⟨Span.has_of_not_meets wfWf inWf, Span.has_of_not_meets wfRf inWf⟩, fun inWf => ?_⟩
  exact Bool.eq_false_iff.mpr fun inRf => Bool.eq_false_iff.mp (Span.has_of_not_meets rfWf inRf) inWf

theorem running_of_busy {s : State} (busy : s.busy = true) : running s = footprint s.cfg s.latch :=
  if_pos busy

/-- Two busy instances that pass the platform's test have their footprints apart. -/
theorem footprintsApart_of_not_clashes {others : List State} {s u : State} (h : clashes others s = false)
    (hu : u ∈ others) (busyS : s.busy = true) (busyU : u.busy = true) :
    FootprintsApart (footprint s.cfg s.latch) (footprint u.cfg u.latch) := by
  have noClash : (running s).clash (running u) = false := Bool.eq_false_iff.mpr (List.any_eq_false.mp h u hu)
  rw [running_of_busy busyS, running_of_busy busyU] at noClash
  exact footprintsApart_of_not_clash noClash

/-! ### Two completions over one memory -/

/-- Writes to two ranges without a common address commute. -/
theorem Memory.writeRange_comm {m : Memory} (hwf : Memory.wf m = true) {a b : Nat} {xs ys : List Byte}
    (apart : ∀ k, a ≤ k → k < a + xs.length → k < b ∨ b + ys.length ≤ k) :
    (m.writeRange a xs).writeRange b ys = (m.writeRange b ys).writeRange a xs := by
  induction xs generalizing m a with
  | nil => rfl
  | cons x xs ih =>
    simp only [List.length_cons] at apart
    have head : a < b ∨ b + ys.length ≤ a := apart a (by omega) (by omega)
    have tail := ih (m := m.write a x) (a := a + 1) (Memory.write_wf a x hwf) fun k hk hk' =>
      apart k (by omega) (by omega)
    rw [Memory.writeRange, tail, Memory.writeRange_write_comm hwf head, Memory.writeRange]

/-- Over another memory that holds the same source bytes, a completion writes the same bytes at the same place and changes
every register alike. -/
theorem completed_attach {s : State} {m : Memory}
    (source : ∀ a, (footprint s.cfg s.latch).rf.has a = true → m.read a = s.mem.read a) :
    ∃ bs, bs.length = (footprint s.cfg s.latch).wf.size ∧
      (completed s).mem = s.mem.writeRange (footprint s.cfg s.latch).wf.base bs ∧
      completed (attach m s) = attach (m.writeRange (footprint s.cfg s.latch).wf.base bs) (completed s) := by
  rcases fails_or_passes s.cfg s.latch with ⟨hempty, e, hfail⟩ | ⟨i, hdec, hchk⟩
  · rw [hempty, hfail s rfl rfl, hfail (attach m s) rfl rfl]
    exact ⟨[], rfl, rfl, rfl⟩
  · rw [footprint_of_passes hdec hchk] at source ⊢
    have same : SameMessage i s (attach m s) := ⟨rfl, ⟨s.latch.dest, rfl⟩, fun reads =>
      Memory.readRange_congr fun k hk => source _ ((Span.has_iff _ _).mpr (by
        rw [attach_latch] at hk ⊢
        simp only [readCount_eq, if_pos reads]
        exact ⟨Nat.le_add_right _ _, Nat.add_lt_add_left hk _⟩))⟩
    refine ⟨bytesOf i s, length_bytesOf hchk, ?_, ?_⟩
    · rw [completed_of_passes hdec hchk, okState_mem]
    · rw [completed_of_passes hdec hchk, completed_of_passes (s := attach m s) hdec hchk, same.okState_eq rfl rfl]
      rfl

/-- A completion leaves the source bytes of a footprint apart from its own as they were. -/
theorem FootprintsApart.read_completed {s : State} {g : Footprint} (hwf : Memory.wf s.mem = true)
    (apart : FootprintsApart (footprint s.cfg s.latch) g) {a : Nat} (inRf : g.rf.has a = true) :
    (completed s).mem.read a = s.mem.read a :=
  Machine.read_completed hwf (Bool.eq_false_iff.mpr fun inWf => Bool.eq_false_iff.mp ((apart a).1 inWf).2 inRf)

/-! ### The statements about instances -/

/-- Settles O54: the platform puts back entry `k` alone, after the test that its running footprints clash with no other's. -/
theorem instancesShareOnlyMemory : Obligations.InstancesShareOnlyMemory := by
  intro p q k j s u h hjk
  rcases platformStep_next_cases h with ⟨absent, rfl⟩ | ⟨s0, t, present, -, -, noClash, rfl⟩
  · exact ⟨rfl, fun hs => nomatch absent.symm.trans hs⟩
  · have others : (p.instances.set k (park t))[j]? = p.instances[j]? := List.getElem?_set_ne hjk.symm
    refine ⟨others, fun hs hu busyS busyU => ?_⟩
    have hst : s = park t := by
      obtain ⟨hk, -⟩ := List.getElem?_eq_some_iff.mp present
      rw [List.getElem?_set_self hk] at hs
      exact (Option.some.inj hs).symm
    subst hst
    have hmem : u ∈ p.instances.eraseIdx k := List.mem_eraseIdx_iff_getElem?.mpr ⟨j, hjk, others.symm.trans hu⟩
    exact footprintsApart_of_not_clashes noClash hmem busyS busyU

/-- Settles O55: neither completion touches the other's source bytes, so each writes its own bytes in either order, and the two
writes commute. -/
theorem completionsOfInstancesCommute : Obligations.CompletionsOfInstancesCommute := by
  intro s u hwf hmem apart
  obtain ⟨bs, hbs, memS, laterS⟩ := completed_attach (s := s) (m := (completed u).mem) fun a inRf =>
    (apart.symm.read_completed (hmem ▸ hwf) inRf).trans (by rw [hmem])
  obtain ⟨cs, hcs, memU, laterU⟩ := completed_attach (s := u) (m := (completed s).mem) fun a inRf =>
    (apart.read_completed hwf inRf).trans (by rw [hmem])
  have writesCommute := Memory.writeRange_comm hwf (xs := bs) (ys := cs) fun a ha ha' =>
    hcs ▸ (Span.has_eq_false_iff _ _).mp ((apart a).1 ((Span.has_iff _ _).mpr ⟨ha, hbs ▸ ha'⟩)).1
  have sameMem : (completed u).mem.writeRange (footprint s.cfg s.latch).wf.base bs =
      (completed s).mem.writeRange (footprint u.cfg u.latch).wf.base cs := by
    rw [memS, memU, hmem, writesCommute]
  rw [sameMem] at laterS
  exact ⟨completed s, completed u, _, framerStep_eq_completed s, framerStep_eq_completed u,
    (framerStep_eq_completed _).trans (congrArg _ laterU), (framerStep_eq_completed _).trans (congrArg _ laterS)⟩

end Sys2Proof.Machine
end

section
/-! Proofs, 70_reset_and_hazards.md R251 and R248: a command in flight stays in flight until the framer takes it, whatever the
host does, and a `CMD` write cannot replace it. -/

namespace Sys2Proof.Machine

/-! ### A host turn while a command is in flight -/

/-- The command in flight is still in flight, with the latch it was started with. -/
structure KeepsCommand (s t : State) : Prop where
  busy : t.busy = true
  latch : t.latch = s.latch

theorem KeepsCommand.refl {s : State} (busy : s.busy = true) : KeepsCommand s s := ⟨busy, rfl⟩

theorem writeOffset_cmd_of_busy {s : State} (busy : s.busy = true) (w : Word) : writeOffset 0x00 w s = s :=
  if_pos busy

/-- The one register write that touches `BUSY` or the latch is an accepted `CMD` write, which needs an idle block (R22). -/
theorem writeOffset_keepsCommand {s : State} (busy : s.busy = true) (o : Nat) (v : Word) :
    KeepsCommand s (writeOffset o v s) := by
  rcases writeOffset_cases o v s with h | ⟨-, idle, -⟩ | h | h | h | h | h | h | h | h
  case inr.inl => exact absurd busy (Bool.eq_false_iff.mp idle)
  all_goals
    rw [h]
    exact ⟨busy, rfl⟩

theorem observe_keepsCommand {s : State} (busy : s.busy = true) (o : Nat) : KeepsCommand s (observe o s) := by
  rw [observe_eq]
  exact ⟨busy, rfl⟩

theorem hostAct_keepsCommand {op : HostOp} {s t : State} (busy : s.busy = true) (h : hostAct op s = .next t) :
    KeepsCommand s t := by
  rcases hostAct_next_cases h with ⟨o, v, rfl⟩ | ⟨o, x, v, rfl⟩ | ⟨a, b, -, -, rfl⟩ | ⟨x, v, rfl⟩ | rfl | ⟨k, rfl⟩
  · obtain ⟨stillBusy, sameLatch⟩ := writeOffset_keepsCommand busy o v
    exact ⟨stillBusy, sameLatch⟩
  · obtain ⟨stillBusy, sameLatch⟩ := observe_keepsCommand (s := setTemp x v s) busy o
    exact ⟨stillBusy, sameLatch⟩
  all_goals exact ⟨busy, rfl⟩

theorem hostTurn_keepsCommand {s t : State} (busy : s.busy = true) (h : hostTurn s = .next t) : KeepsCommand s t := by
  unfold hostTurn at h
  split at h
  · exact hostAct_keepsCommand busy h
  · injection h with h
    exact h ▸ KeepsCommand.refl busy

/-- Every completion, by success or by `fail`, ends with `BUSY` 0 (R121, R217). -/
theorem completed_busy (s : State) : (completed s).busy = false := by
  rcases fails_or_passes s.cfg s.latch with ⟨-, e, fails⟩ | ⟨i, hdec, hchk⟩
  · rw [fails s rfl rfl]
    rfl
  · rw [completed_of_passes hdec hchk]
    rfl

/-! ### The statements about a command in flight -/

/-- Settles O38: no host operation touches a command in flight, and an empty schedule gives the framer the turn, which
completes it. -/
theorem commandStaysEnabledUntilTaken : Obligations.CommandStaysEnabledUntilTaken := by
  intro s wf busy
  refine ⟨fun t turn h => ?_, fun empty => ?_⟩
  · rcases step_next_cases h with ⟨-, host⟩ | ⟨framer, -⟩ | ⟨reset, -⟩
    · obtain ⟨stillBusy, sameLatch⟩ := hostTurn_keepsCommand (s := popTurn s) busy host
      exact ⟨stillBusy, sameLatch⟩
    · cases turn.symm.trans framer
    · cases turn.symm.trans reset
  · refine ⟨completed (popTurn s), ?_, completed_busy _⟩
    rw [step_of_framer wf (nextTurn_busy (.inl empty) busy), framerTurn_of_busy (s := popTurn s) busy]

/-- Settles O45: a busy block ignores the write, so only the host moves on. -/
theorem busyCmdWriteIsIgnored : Obligations.BusyCmdWriteIsIgnored := by
  intro s v busy
  rw [hostAct_write (by decide) (by decide), writeOffset_cmd_of_busy busy]
  rfl

end Sys2Proof.Machine
end

section
/-! Proofs, 70_reset_and_hazards.md R240, R241 and R244: what the reset input leaves in the registers and in `MEM`, and the first
command after it. -/

namespace Sys2Proof.Machine

/-! ### `MEM` under the reset input -/

theorem abandonedSpan_of_busy {s : State} (busy : s.busy = true) : abandonedSpan s = (footprint s.cfg s.latch).wf :=
  if_pos busy

theorem abandonedSpan_of_idle {s : State} (idle : s.busy = false) : abandonedSpan s = ⟨0, 0⟩ :=
  if_neg (by simp [idle])

theorem scrambledMem_of_idle {s : State} (idle : s.busy = false) : scrambledMem s = s.mem := by
  rw [scrambledMem, abandonedSpan_of_idle idle]
  rfl

/-- The drawn bytes fill the abandoned range exactly, so a byte outside it reads as before (R241). -/
theorem read_scrambledMem {s : State} (hwf : Memory.wf s.mem = true) {a : Nat}
    (outside : (abandonedSpan s).has a = false) : (scrambledMem s).read a = s.mem.read a := by
  rw [Span.has_eq_false_iff] at outside
  rw [scrambledMem, Memory.read_writeRange hwf, length_freeBytes, if_neg (by omega)]

/-- Settles O57: the reset turn leaves `scrambledMem`, which differs from `MEM` in the abandoned range alone. -/
theorem resetSparesMemory : Obligations.ResetSparesMemory := by
  intro s t wf hwf head h
  obtain rfl : resetBlock (popTurn s) = t :=
    Host.Outcome.next.inj ((step_of_reset wf (nextTurn_of_head head)).symm.trans h)
  refine ⟨fun idle => scrambledMem_of_idle (s := popTurn s) idle, fun busy a outside => ?_⟩
  have spared : (abandonedSpan (popTurn s)).has a = false := by
    rw [abandonedSpan_of_busy (s := popTurn s) busy]
    exact outside
  exact read_scrambledMem (s := popTurn s) hwf spared

/-! ### The registers under the reset input -/

/-- The reset input leaves the registers of the state after reset (R45). -/
theorem readReg_resetBlock (r : Reg) (s : State) : readReg r (resetBlock s) = 0 := by
  have sameRegisters : readReg r (resetBlock s) = readReg r (State.resetWith s.cfg) := by cases r <;> rfl
  rw [sameRegisters, readReg_resetWith]

/-- Settles O56, by the fields of `resetBlock`. -/
theorem resetInputClearsTheBlock : Obligations.ResetInputClearsTheBlock := by
  intro s wf head
  exact ⟨resetBlock (popTurn s), step_of_reset wf (nextTurn_of_head head), fun r => readReg_resetBlock r _, rfl, rfl, rfl,
    rfl, rfl⟩

/-! ### The first command after reset -/

/-- R9: `MEM` has at least one byte. -/
theorem memSize_pos_of_wellFormed {c : Config} (wf : c.wellFormed = true) : 1 ≤ c.memSize := by
  obtain ⟨inRange, -⟩ := c.wellFormed_iff.mp wf
  simp only [Config.inRange, Bool.and_eq_true, decide_eq_true_eq] at inRange
  exact inRange.1.1

theorem Wrote.read_base {m m' : Memory} {a : Nat} {b : Byte} (h : Wrote m m' a [b]) : m'.read a = b := by
  rw [h a, if_pos ⟨le_rfl, Nat.lt_succ_self a⟩, Nat.sub_self]
  rfl

/-- Settles O58: word 0 is SYS, the reset operands aim it at address 0 with signal 0, and there its one byte fits. -/
theorem firstCommandAfterResetIsSys : Obligations.FirstCommandAfterResetIsSys := by
  intro c wf
  obtain ⟨-, inside, -⟩ := sysEmitsOneByte (popTurn ((State.resetWith c).withFetchWord 32 0)) rfl
  obtain ⟨t, executes, ⟨result, code, busy, -⟩, wrote⟩ := inside (memSize_pos_of_wellFormed wf)
  have runsSys : step ((State.resetWith c).withFetchWord 32 0) = .next t :=
    (stepRunsTheLatchedCommand ((State.resetWith c).withFetchWord 32 0) .sys wf rfl (.inr rfl) (decode_encode .sys)).trans
      executes
  have signalZero : byteAt 0 0 &&& 7 = 0 := by decide
  refine ⟨t, runsSys, result, code, busy, ?_⟩
  calc t.mem.read 0 = c.sysBase ||| (byteAt 0 0 &&& 7) := wrote.read_base
    _ = c.sysBase ||| 0 := by rw [signalZero]
    _ = c.sysBase := BitVec.or_zero

end Sys2Proof.Machine
end

section
/-! Proofs, 10_state.md, the invariant `State.Inv`: the state after reset has it (R45), and every update that a turn is made of
keeps it. -/

namespace Sys2Proof.Machine

/-! ### The state after reset -/

theorem resetWith_inv (c : Config) : (State.resetWith c).Inv where
  memCanonical := rfl
  memInside := nofun
  cmdLatched := rfl
  curSmall := Nat.zero_le _
  busyInFlight := nofun
  failedResult := fun failed => absurd rfl failed
  okResult := fun _ => Nat.zero_le _
  tempsRising := .nil

/-- Settles O42, by `resetWith_inv`. -/
theorem resetHasInvariant : Obligations.ResetHasInvariant := resetWith_inv

/-! ### Writes inside `MEM` -/

theorem Memory.write_inside {m : Memory} {n a : Nat} (inside : ∀ c ∈ m, c.1 < n) (ha : a < n) (b : Byte) :
    ∀ c ∈ m.write a b, c.1 < n := by
  intro c hc
  rcases Memory.mem_write hc with old | rfl
  · exact inside c old
  · exact ha

/-- A range write inside `MEM` leaves every cell there; an empty one may stand anywhere, as WPAD's does (R134). -/
theorem Memory.writeRange_inside {m : Memory} {n a : Nat} {bs : List Byte} (inside : ∀ c ∈ m, c.1 < n)
    (fits : 0 < bs.length → a + bs.length ≤ n) : ∀ c ∈ m.writeRange a bs, c.1 < n := by
  intro c hc
  rcases Memory.mem_writeRange hc with old | ⟨above, below⟩
  · exact inside c old
  · have := fits (by omega)
    omega

/-! ### The host's updates -/

variable {s : State}

theorem State.Inv.popTurn (inv : s.Inv) : (popTurn s).Inv := { inv with }

theorem State.Inv.hostNext (inv : s.Inv) : (hostNext s).Inv := { inv with }

theorem State.Inv.hostJump (inv : s.Inv) (k : Nat) : (hostJump k s).Inv := { inv with }

theorem State.Inv.setTemp (inv : s.Inv) (x : Nat) (v : Int) : (setTemp x v s).Inv :=
  { inv with tempsRising := writeTemp_rising x v inv.tempsRising }

theorem State.Inv.storeMem (inv : s.Inv) {a : Nat} (ha : a < s.cfg.memSize) (b : Byte) : (storeMem a b s).Inv :=
  { inv with
    memCanonical := Memory.write_wf a b inv.memCanonical
    memInside := Memory.write_inside inv.memInside ha b }

/-- The flights end only where `BUSY` is 0, so those of a busy command stay recorded (R75, R76). -/
theorem State.Inv.observe (inv : s.Inv) (o : Nat) : (observe o s).Inv := by
  rcases observe_cases o s with h | ⟨idle, h⟩
  · rwa [h]
  · rw [h]
    exact { inv with busyInFlight := fun busy => absurd busy (Bool.eq_false_iff.mp idle) }

/-- An accepted command enters the latch with its word and the flights with its footprints (R22, R36, R76). -/
theorem State.Inv.acceptCommand (inv : s.Inv) (w : Word) : (acceptCommand w s).Inv :=
  { inv with
    cmdLatched := rfl
    busyInFlight := fun _ => List.mem_cons_self }

theorem State.Inv.writeOffset (inv : s.Inv) (o : Nat) (v : Word) : (writeOffset o v s).Inv := by
  rcases writeOffset_cases o v s with h | ⟨-, -, h⟩ | h | h | h | h | h | h | h | h <;> rw [h]
  case inr.inl => exact inv.acceptCommand v
  all_goals exact { inv with }

/-! ### The completions -/

theorem length_bytesOf_le {i : Instr} (hchk : checksOf i s.cfg s.latch = none) : (bytesOf i s).length ≤ 127 :=
  length_bytesOf hchk ▸ (nok_le hchk).1

/-- A value is a count of at most 127 bytes, one byte, an exponent of at most 8 or a padding (R127, R130 to R134). -/
theorem valueOf_le {i : Instr} (hchk : checksOf i s.cfg s.latch = none) : valueOf i s ≤ 255 := by
  by_cases hi : i ∈ writers
  · exact valueOf_of_mem_writers hi s ▸ (length_bytesOf_le hchk).trans (by decide)
  · cases i with
    | csum => exact Nat.le_of_lt_succ (checksum (sourceBytes s)).isLt
    | log2c => exact (clog2_le s.latch.count).trans (by decide)
    | lcode => exact Nat.le_of_lt_succ (lengthCode s.latch.count).isLt
    | padsz => exact padCount_le_255 s
    | _ => exact absurd (by decide) hi

/-- `RESULT` holds the value as it is. -/
theorem toNat_result_okState_eq_valueOf {i : Instr} (hchk : checksOf i s.cfg s.latch = none) :
    (okState i s).result.toNat = valueOf i s := by
  have := valueOf_le hchk
  rw [okState_result, BitVec.toNat_ofNat, Nat.mod_eq_of_lt (by omega)]

theorem bytesOf_inside {i : Instr} (hchk : checksOf i s.cfg s.latch = none) (pos : 0 < (bytesOf i s).length) :
    s.latch.destAddr + (bytesOf i s).length ≤ s.cfg.memSize := by
  obtain ⟨inside, -, -⟩ := memFits_of_checks hchk
  rw [length_bytesOf hchk] at pos ⊢
  exact inside pos

theorem State.Inv.failState (inv : s.Inv) {c : Code} (hc : c ≠ .ok) : (failState c s).Inv :=
  { inv with
    curSmall := Nat.zero_le _
    busyInFlight := nofun
    failedResult := fun _ => rfl
    okResult := fun ok => absurd ok hc }

theorem State.Inv.okState (inv : s.Inv) {i : Instr} (hchk : checksOf i s.cfg s.latch = none) : (okState i s).Inv :=
  { inv with
    memCanonical := Memory.writeRange_wf _ _ inv.memCanonical
    memInside := Memory.writeRange_inside inv.memInside (bytesOf_inside hchk)
    curSmall := length_bytesOf_le hchk
    busyInFlight := nofun
    failedResult := fun failed => absurd rfl failed
    okResult := fun _ => (toNat_result_okState_eq_valueOf hchk).trans_le (valueOf_le hchk) }

/-! ### The reset input -/

/-- The bytes that the reset input scrambles are the abandoned command's, which lie in `MEM` (R241). -/
theorem abandonedSpan_inside (s : State) (pos : 0 < (abandonedSpan s).size) :
    (abandonedSpan s).base + (abandonedSpan s).size ≤ s.cfg.memSize := by
  cases busy : s.busy with
  | false =>
    rw [abandonedSpan_of_idle busy] at pos
    exact absurd pos (Nat.lt_irrefl 0)
  | true =>
    rw [abandonedSpan_of_busy busy] at pos ⊢
    have last : (footprint s.cfg s.latch).wf.has
        ((footprint s.cfg s.latch).wf.base + (footprint s.cfg s.latch).wf.size - 1) = true :=
      (Span.has_iff _ _).mpr (by omega)
    have := footprint_wf_inside last
    omega

theorem State.Inv.resetBlock (inv : s.Inv) : (resetBlock s).Inv :=
  { resetWith_inv s.cfg with
    memCanonical := Memory.writeRange_wf _ _ inv.memCanonical
    memInside := Memory.writeRange_inside inv.memInside fun pos => by
      rw [length_freeBytes] at pos ⊢
      exact abandonedSpan_inside s pos
    curSmall := Nat.le_of_lt_succ (Config.freeCur s.draws).isLt
    tempsRising := inv.tempsRising }

end Sys2Proof.Machine
end

section
/-! Proofs, 10_state.md and 20_memory.md R72: every step, whoever moves, keeps the invariant. -/

namespace Sys2Proof.Machine

theorem hostAct_inv {op : HostOp} {s t : State} (inv : s.Inv) (h : hostAct op s = .next t) : t.Inv := by
  rcases hostAct_next_cases h with ⟨o, v, rfl⟩ | ⟨o, x, v, rfl⟩ | ⟨a, b, ha, -, rfl⟩ | ⟨x, v, rfl⟩ | rfl | ⟨k, rfl⟩
  · exact (inv.writeOffset o v).hostNext
  · exact ((inv.setTemp x v).observe o).hostNext
  · exact (inv.storeMem ha b).hostNext
  · exact (inv.setTemp x v).hostNext
  · exact inv.hostNext
  · exact inv.hostJump k

theorem hostTurn_inv {s t : State} (inv : s.Inv) (h : hostTurn s = .next t) : t.Inv := by
  unfold hostTurn at h
  split at h
  · exact hostAct_inv inv h
  · cases h
    exact inv

theorem framerStep_inv {s t : State} (inv : s.Inv) (h : framerStep s = .next t) : t.Inv := by
  rcases framerStep_cases s with ⟨c, failed, hc⟩ | ⟨i, -, hchk, hi⟩
  · cases hc.symm.trans h
    exact inv.failState failed
  · cases hi.symm.trans h
    exact inv.okState hchk

theorem framerTurn_inv {s t : State} (inv : s.Inv) (h : framerTurn s = .next t) : t.Inv := by
  unfold framerTurn at h
  split at h
  · exact framerStep_inv inv h
  · cases h
    exact inv

/-- Settles O41, turn by turn. -/
theorem stepKeepsInvariant : Obligations.StepKeepsInvariant := by
  intro s t inv h
  rcases step_next_cases h with ⟨-, host⟩ | ⟨-, framer⟩ | ⟨-, rfl⟩
  · exact hostTurn_inv inv.popTurn host
  · exact framerTurn_inv inv.popTurn framer
  · exact inv.popTurn.resetBlock

end Sys2Proof.Machine
end

section
/-! Proofs, 10_state.md R37 to R39: what a completion leaves in `ACC`, `CUR` and `PADCNT` (notes/assumptions/6.md). -/

namespace Sys2Proof.Machine

@[simp] theorem okState_acc (i : Instr) (s : State) : (okState i s).acc = accOf i s := rfl
@[simp] theorem okState_cur (i : Instr) (s : State) : (okState i s).cur = (bytesOf i s).length := rfl
@[simp] theorem okState_padCnt (i : Instr) (s : State) : (okState i s).padCnt = padAfter i s := rfl

/-- `CODE` tells which completion it was: with any code but `OK` the first failing check's. -/
theorem eq_failState_of_exec {i : Instr} {s t : State} (h : exec i s = .next t) (failed : t.code ≠ .ok) :
    ∃ c, t = failState c s := by
  have ht := eq_completion_of_exec h
  cases hchk : checksOf i s.cfg s.latch with
  | some c => exact ⟨c, ht.trans (completion_of_some hchk i s)⟩
  | none => exact absurd (congrArg State.code (ht.trans (completion_of_none hchk i s))) failed

/-- The count that a writer leaves in `CUR` is its `RESULT` (R24, R38). -/
theorem okState_cur_eq_result {i : Instr} {s : State} (hi : i ∈ writers) (hchk : checksOf i s.cfg s.latch = none) :
    (okState i s).cur = (okState i s).result.toNat := by
  rw [okState_cur, toNat_result_okState hi hchk]

theorem getD_frameBytes_length (xs : List Byte) : (frameBytes xs).getD xs.length 0 = checksum xs := by
  simp [frameBytes]

/-- The last byte of a checksummed frame in `MEM` is what `ACC` holds (R37, R126). -/
theorem read_last_okState {i : Instr} {s : State} (hi : i ∈ checksummed) (hchk : checksOf i s.cfg s.latch = none)
    (hwf : Memory.wf s.mem = true) :
    Memory.read (okState i s).mem (s.latch.dest.toNat + (okState i s).result.toNat - 1) = (okState i s).acc := by
  have count : (okState i s).result.toNat = (frameBody i s).length + 1 := by
    rw [toNat_result_okState (mem_writers_of_mem_checksummed hi) hchk, bytesOf_checksummed hi, length_frameBytes]
  calc Memory.read (okState i s).mem (s.latch.dest.toNat + (okState i s).result.toNat - 1)
      = (frameBytes (frameBody i s)).getD (frameBody i s).length 0 := by
        rw [count, Nat.add_succ_sub_one, okState_wrote i hwf, bytesOf_checksummed hi, length_frameBytes,
          if_pos (by omega), Nat.add_sub_cancel_left]
    _ = (okState i s).acc := by rw [getD_frameBytes_length, okState_acc, accOf_checksummed hi]

/-- Settles O28: a failure is `failState`; a success is `okState`, whose hidden state is read off for each class of
commands. -/
theorem hiddenStateAfterCompletion : Obligations.HiddenStateAfterCompletion := by
  intro i s t hwf hexec
  refine ⟨fun failed => ?_, fun ok => ?_⟩
  · obtain ⟨c, rfl⟩ := eq_failState_of_exec hexec failed
    exact ⟨rfl, rfl, rfl⟩
  · obtain ⟨hchk, rfl⟩ := eq_okState_of_exec hexec ok
    refine ⟨fun hi => ⟨?_, ?_, ?_⟩, ?_, ?_, ?_⟩
    · exact (read_last_okState hi hchk hwf).symm
    · exact okState_cur_eq_result (mem_writers_of_mem_checksummed hi) hchk
    · rw [okState_padCnt, padAfter_checksummed hi]
    · rintro (rfl | rfl) <;> exact ⟨rfl, okState_cur_eq_result (by decide) hchk, rfl⟩
    · rintro rfl
      exact ⟨(toNat_result_okState_eq_valueOf hchk).symm, rfl, rfl⟩
    · rintro (rfl | rfl | rfl) <;> exact ⟨rfl, rfl, rfl⟩

end Sys2Proof.Machine
end
